-- ==== Sys2Proof/Word.lean ====
section
/-! DEFINITION. The words of the TL-6120: characters, frame numbers, clip tokens, sets of ports, and the names of
ports, zones and sensors. -/

namespace Sys2Proof

/-- The value of one character of a link, 0 to 255 (R37). -/
abbrev Byte := BitVec 8

/-- A wall frame number, a 32-bit count that wraps (R7). -/
abbrev Frame := BitVec 32

/-- A clip token (R39). -/
abbrev Token := BitVec 16

/-- A set of ports as the bit sets of section 3.6 hold it: bit p stands for port p (R52). -/
abbrev PortMask := BitVec 6

/-- Port p is player link PLp (00, Conventions). -/
abbrev Port := Fin 6

/-- One of the eight tile zones (R150). -/
abbrev ZoneId := Fin 8

/-- One of the eight ambient-light sensors S0 to S7 (R140). -/
abbrev SensorId := Fin 8

end Sys2Proof
end

