-- ==== Sys2Proof/Syntax.lean ====
section
/-! DEFINITION. The commands of the TL-6120: one constructor for each row of spec/opcode_table.json. -/

namespace Sys2Proof

/-- One character on a link (R20): eight data bits, mark bit, parity bit, and whether its stop bit is mark. -/
structure LineChar where
  data : Byte
  mark : Bool
  parity : Bool
  stopMark : Bool
  deriving DecidableEq, Repr

/-- When an event happens, against the event before it. `later`: the starts of messages that are due come first (R31).
`together`: the two fall together, one whole step and then the other (R90, R112, R114, R138), and the starts that are due
come after both (log 10). -/
inductive Moment where
  | together
  | later
  deriving DecidableEq, Repr, Inhabited

/-- The orders that the spec leaves open at one strobe. `examinedBefore` tells, port by port, how many cues of the table
the arming unit examines before that port's part of the phase watch takes the strobe: a deadline reads the new step status
of the ports whose parts came before it, and the old one of the others (R100, R134). The parts of the six ports share
nothing (chapter 8), so each has its own number; 0 is before every deadline, 64 after every one. `handoverFirst`: a period
P handed over at the strobe reaches the zone dimmer before it computes (R162). `moment`: when the strobe comes, against the
event before it. -/
structure StrobeOrder where
  examinedBefore : Vector Nat 6
  handoverFirst : Bool
  moment : Moment
  deriving DecidableEq, Repr, Inhabited

/-- The commands: the part's steps, each whole and indivisible (spec/95). `LAWS.json` maps each to its row.
Operands are what the event brings from outside the part (see notes/assumptions), and for every command but the sendings
the moment of the event; the strobes and the reference edge have it in their order. -/
inductive Instr where
  /-- POWER_ON_RESET (R169). -/
  | powerOnReset (m : Moment := .later)
  /-- PIN_RESET (R169): RESET goes low. -/
  | pinReset (m : Moment := .later)
  /-- LOAD_START (R169): the power-on reset ends, or RESET returns high. -/
  | loadStart (m : Moment := .later)
  /-- LOAD_END (R170): `rxdAtSpace` tells, port by port, whether RXD is at space at that moment (R36). -/
  | loadEnd (rxdAtSpace : Vector Bool 6) (m : Moment := .later)
  /-- FREE_RUNNING_STROBE (R3). -/
  | freeRunningStrobe (order : StrobeOrder)
  /-- REFERENCE_EDGE (R13): `ticks` ticks passed since the last event of the frame timer. -/
  | referenceEdge (ticks : Nat) (order : StrobeOrder)
  /-- LATE_LIMIT_STROBE (R14). -/
  | lateLimitStrobe (order : StrobeOrder)
  /-- RELOCK_FRAME_LIMIT (R12). -/
  | relockFrameLimit (order : StrobeOrder)
  /-- INTERVAL_TOO_LONG (R10). -/
  | intervalTooLong (m : Moment := .later)
  /-- FRAME_PULSE_END (R6). -/
  | framePulseEnd (m : Moment := .later)
  /-- RECEIVED_CHARACTER (R22): a character arrives whole on a port. -/
  | receivedCharacter (p : Port) (ch : LineChar) (m : Moment := .later)
  /-- EDIT_ARRIVAL (R26): a good data character completes an edit. -/
  | editArrival (p : Port) (last : Byte) (m : Moment := .later)
  /-- READY (R96): a good data character completes a READY. -/
  | ready (p : Port) (last : Byte) (m : Moment := .later)
  /-- UNREADY (R96): a good data character completes an UNREADY. -/
  | unready (p : Port) (last : Byte) (m : Moment := .later)
  /-- QUERY (R122): a good data character completes a QUERY. -/
  | query (p : Port) (last : Byte) (m : Moment := .later)
  /-- BREAK (R32). -/
  | lineBreak (p : Port) (m : Moment := .later)
  /-- CTS_ASSERTED (R31): the CTS input of the port changes to `level`; the row's event is the level true. -/
  | ctsAsserted (p : Port) (level : Bool) (m : Moment := .later)
  /-- MESSAGE_END (R30). -/
  | messageEnd (p : Port) (m : Moment := .later)
  /-- PREPARE (R126): sent on the port. -/
  | prepare (p : Port)
  /-- DEFER (R126). -/
  | defer (p : Port)
  /-- COMMIT (R126). -/
  | commit (p : Port)
  /-- ABORT (R126). -/
  | abort (p : Port)
  /-- EDIT_RESULT (R123). -/
  | editResult (p : Port)
  /-- REPORT (R127). -/
  | report (p : Port)
  /-- STEP (R127). -/
  | step (p : Port)
  /-- CUE_PUT (R79): completes at the edit unit. -/
  | cuePut (m : Moment := .later)
  /-- CUE_DROP (R82). -/
  | cueDrop (m : Moment := .later)
  /-- ZONE_SET (R83). -/
  | zoneSet (m : Moment := .later)
  /-- WALL_SET (R84). -/
  | wallSet (m : Moment := .later)
  /-- PHASE_SET (R85). -/
  | phaseSet (m : Moment := .later)
  /-- PERMIT (R86). -/
  | permit (m : Moment := .later)
  /-- LOCK (R87). -/
  | lock (m : Moment := .later)
  /-- SAVE (R88). -/
  | save (m : Moment := .later)
  /-- ERASE (R167): the erase phase ends. -/
  | erase (m : Moment := .later)
  /-- PROGRAM (R167): the program phase ends. -/
  | program (m : Moment := .later)
  /-- CHECK (R167): the check phase ends; `matched` is what the read-back comparison found. -/
  | check (matched : Bool) (m : Moment := .later)
  /-- ECHO_EDGE (R131): a rising edge on ECHOp, `ticks` ticks after the last event of the frame timer. -/
  | echoEdge (p : Port) (ticks : Nat) (m : Moment := .later)
  /-- CONVERSION_END (R140): the conversion in progress ends with the result `sample`. -/
  | conversionEnd (sample : Nat) (m : Moment := .later)
  /-- WRAP (R161). -/
  | wrap (m : Moment := .later)
  /-- RETURN_TO_MARK (R21). -/
  | returnToMark (p : Port) (m : Moment := .later)
  /-- STOP_BIT_END (R30). -/
  | stopBitEnd (p : Port) (m : Moment := .later)
  deriving DecidableEq, Repr

end Sys2Proof
end

