-- ==== Sys2Proof/Decode.lean ====
section
/-! DEFINITION. The words of the commands: no row of spec/opcode_table.json gives bits. -/

namespace Sys2Proof

/-- The command that a word spells by the bits of spec/opcode_table.json. Its 41 rows have no "fixed" and no "fields":
no word spells a command. Commands reach the part through the queue `State.pending`. -/
def decodeTableWord (_nbits _w : Nat) : Option Instr :=
  none

end Sys2Proof
end

