-- ==== Sys2Proof/Config.lean ====
section
/-! DEFINITION. The values the spec leaves open. Each is an opaque constant without a body: nothing can be proved of it
but what holds for every value. The model applies each to a counter of `State`, so that each use is a fresh value. -/

namespace Sys2Proof

/-- The order in which the blocks take a strobe that comes when no command is waiting (R100, R134, R162), and whether the
strobe falls together with the event before it (R112, R114). -/
opaque Config.strobeOrder : Nat → StrobeOrder

/-- The character Id low that a PORT report carries for a record whose id range is empty: the spec states none
(R44, R48). -/
opaque Config.emptyIdLow : Nat → Byte

/-- The character Id high that a PORT report carries for a record whose id range is empty (R44, R48). -/
opaque Config.emptyIdHigh : Nat → Byte

end Sys2Proof
end

