-- ==== Sys2Proof/Machine/State.lean ====
section
/-! DEFINITION. The state of the TL-6120, block by block, and its value right after reset. Every field cites the rule
that names it; INVENTORY.md lists them all. -/

namespace Sys2Proof.Machine

/-- A message of a link: its characters, the kind character first (R37). A CUE_PUT with more than six participants
keeps its first 43 characters (R23). -/
abbrev Message := List Byte

/-! ### Wall timebase (chapter 1) -/

/-- Source of the wall settings (R2). -/
inductive Source where
  | internal
  | reference
  deriving DecidableEq, Repr

/-- The five timebase states (1.4). -/
inductive TimebaseState where
  | unset
  | free
  | seeking
  | locked
  | holdover
  deriving DecidableEq, Repr

/-- The fields of the wall settings that a timebase needs (R2): absent in UNSET (R16, R18). -/
structure Timebase where
  source : Source
  prescale : Fin 3
  n : Nat
  deriving DecidableEq, Repr

/-- The fields of the wall settings that are held in every timebase state (R2, R18). -/
structure WallCommon where
  sweepCount : Nat
  sweepDivisor : Nat
  filterShift : Nat
  pwmPeriod : Nat
  deriving DecidableEq, Repr

/-- A whole set of wall settings (R2). -/
structure WallSet where
  timebase : Timebase
  common : WallCommon
  deriving DecidableEq, Repr

/-- The wall timebase. -/
structure Wtb where
  /-- Timebase state (R8). -/
  state : TimebaseState
  /-- Wall frame number W (R7). -/
  w : Frame
  /-- Count c of the frame timer (R3). -/
  c : Nat
  /-- Prescale counter (R1). -/
  prescaleCount : Nat
  /-- Active source, prescale code and N; none while absent (R2, R18). -/
  timebase : Option Timebase
  /-- Active sweep count, sweep divisor, filter shift and P (R2). -/
  common : WallCommon
  /-- Pending set (R2). -/
  pending : Option WallSet
  /-- Miss run (R14). -/
  missRun : Nat
  /-- Relock run (R10). -/
  relockRun : Nat
  /-- Interval count: none when closed (R10). -/
  interval : Option Nat
  /-- Whether the frame in progress is a relock frame (R11). -/
  relockFrame : Bool
  /-- GLITCH flag (R13). -/
  glitch : Bool
  /-- Sweep postscaler (R17). -/
  postscaler : Nat
  /-- FRAME output, true when high (R6). -/
  frameHigh : Bool
  deriving DecidableEq, Repr

/-! ### Player links (chapter 2) -/

/-- The six sticky flags of a port (R29). -/
structure StickyFlags where
  parity : Bool
  framing : Bool
  overrun : Bool
  truncated : Bool
  badKind : Bool
  stray : Bool
  deriving DecidableEq, Repr

/-- Whether the receiver takes a start edge (R21, R33, R36). -/
inductive Receiver where
  | stopped
  | ready
  | awaitingMark
  deriving DecidableEq, Repr

/-- Receive state (R22): in ASSEMBLING, the characters kept (at most 43) and the number of characters received (R23). -/
inductive RxState where
  | hunting
  | assembling (buffer : List Byte) (count : Nat)
  deriving DecidableEq, Repr

/-- Break detector (R32, R36). -/
inductive Detector where
  | stopped
  | measuring
  | awaitingMark
  deriving DecidableEq, Repr

/-- Transmitter (R30, R31). `sending` has a character on the line and the characters after it; `waiting` holds TXD at
mark until CTS is asserted; `abandoned` finishes a character of a message that a port reset abandoned (R33). -/
inductive TxState where
  | idle
  | sending (current : LineChar) (rest : List Byte)
  | waiting (rest : List Byte)
  | abandoned (current : LineChar)
  deriving DecidableEq, Repr

/-- A player link port. -/
structure Link where
  /-- Receiver (R21). -/
  receiver : Receiver
  /-- HUNTING or ASSEMBLING with the assembly buffer (R22, R23). -/
  rx : RxState
  /-- Break detector (R32). -/
  detector : Detector
  /-- Holding slot (R25). -/
  holding : Option Message
  /-- Sticky flags (R29). -/
  flags : StickyFlags
  /-- Transmitter (R30). -/
  tx : TxState
  /-- Level of the CTS input, true when asserted (R30). -/
  cts : Bool
  deriving DecidableEq, Repr

/-! ### Edit unit (chapter 5) -/

/-- Edit outcomes (R51). -/
inductive EditOutcome where
  | accepted
  | noTimebase
  | isProtected
  | badField
  | inFlight
  | tooSoon
  | tooLate
  | clash
  | tableFull
  | unknownCue
  | locked
  | storeFault
  deriving DecidableEq, Repr

/-- The names of a port's two edit slots (R71). -/
inductive SlotName where
  | a
  | b
  deriving DecidableEq, Repr

/-- States of an occupied edit slot (R71); ACTIVE carries the orphan mark (R89), DONE the outcome. -/
inductive SlotStatus where
  | queued
  | active (orphan : Bool)
  | done (outcome : EditOutcome)
  deriving DecidableEq, Repr

/-- An occupied edit slot: its name, the edit as received, its state (R71). -/
structure EditSlot where
  name : SlotName
  edit : Message
  status : SlotStatus
  deriving DecidableEq, Repr

/-- States of the edit unit (R74). -/
inductive EuState where
  | idle
  | working
  | storing
  deriving DecidableEq, Repr

/-- The rights of a permission record (R77). -/
structure Rights where
  zone : Bool
  wall : Bool
  save : Bool
  permit : Bool
  deriving DecidableEq, Repr

/-- A permission record (R77); `idRange` is none when the range is empty. -/
structure Permission where
  idRange : Option (Byte × Byte)
  direct : PortMask
  rights : Rights
  deriving DecidableEq, Repr

/-- The edit unit. -/
structure EditUnit where
  /-- Unit state (R74). -/
  state : EuState
  /-- Round-robin pointer (R75). -/
  pointer : Port
  /-- Per port, the occupied edit slots in arrival order; a slot not listed is EMPTY (R71, R72). -/
  slots : Vector (List EditSlot) 6
  /-- Permission records (R77). -/
  permits : Vector Permission 6
  /-- The lock, true when set (R78). -/
  lock : Bool
  deriving DecidableEq, Repr

/-! ### Cue table, arming unit and cue notices (chapters 4, 6 and 7) -/

/-- CUT or DIM (R39). -/
inductive Transition where
  | cut
  | dim
  deriving DecidableEq, Repr

/-- Policy at a failed deadline (R100). -/
inductive Policy where
  | defer
  | partialTake
  | cancel
  deriving DecidableEq, Repr

/-- Readiness of a participant (R56); REFUSED holds its reason. -/
inductive Readiness where
  | notAsked
  | asked
  | ready
  | refused (reason : Byte)
  deriving DecidableEq, Repr

/-- States of a live cue (R92). -/
inductive CueState where
  | waiting
  | asking
  | armed
  | taken
  deriving DecidableEq, Repr

/-- ABORT reasons (R50). -/
inductive AbortReason where
  | notReady
  | dropped
  | excluded
  | deferClash
  deriving DecidableEq, Repr

/-- An owed cue notice (R116). -/
inductive CueNotice where
  | prepare
  | defer
  | commit
  | abort (reason : AbortReason)
  deriving DecidableEq, Repr

/-- What the composer of one port keeps for one live cue (R116): the owed notice and the sent-history. -/
structure PortNotice where
  owed : Option CueNotice
  askedSent : Bool
  abortSent : Bool
  deriving DecidableEq, Repr

/-- One participant of a cue with its readiness entry (R55, R56). -/
structure Participant where
  port : Port
  token : Token
  readiness : Readiness
  deriving DecidableEq, Repr

/-- A live cue: its record (R54) and, port by port, what the notice composers keep for it (R116). -/
structure Cue where
  id : Byte
  fire : Frame
  transition : Transition
  lo : Nat
  li : Nat
  lead : Nat
  margin : Nat
  policy : Policy
  deferStep : Nat
  maxDeferrals : Nat
  deferralsUsed : Nat
  /-- none when the cue does not repeat (R58). -/
  repeatInterval : Option Nat
  repeatCount : Nat
  participants : List Participant
  armed : PortMask
  state : CueState
  notices : Vector PortNotice 6
  deriving DecidableEq, Repr

/-- Outcome of a retired cue (R67). -/
inductive CueOutcome where
  | taken
  | takenPartial
  | notReady
  | dropped
  | deferClash
  deriving DecidableEq, Repr

/-- Continuation of an outcome entry (R68); RESCHEDULED holds the next fire frame. -/
inductive Continuation where
  | none
  | rescheduled (next : Frame)
  | endedCount
  | endedClash
  deriving DecidableEq, Repr

/-- An entry of the outcome list (R67). -/
structure OutcomeEntry where
  id : Byte
  fire : Frame
  outcome : CueOutcome
  deferralsUsed : Nat
  armed : PortMask
  unsent : PortMask
  continuation : Continuation
  deriving DecidableEq, Repr

/-- An ABORT owed for a retired cue (R116, R120). -/
structure RetiredAbort where
  id : Byte
  reason : AbortReason
  deriving DecidableEq, Repr

/-- The schedule: the cue table, the take lines of the arming unit, and the retired ABORT lists of the composers. -/
structure Schedule where
  /-- Live cues in fire order, the earliest first (R53, R59). -/
  live : List Cue
  /-- Outcome list, oldest first (R66). -/
  outcomes : List OutcomeEntry
  /-- Take lines TAKE0 to TAKE5, true when asserted (R105). -/
  take : Vector Bool 6
  /-- Per port, the retired ABORT list, oldest first (R120). -/
  aborts : Vector (List RetiredAbort) 6
  deriving DecidableEq, Repr

/-- The rest of what a notice composer keeps (R116); its result queue is the DONE slots of its port. -/
structure Composer where
  /-- STEP flag (R121). -/
  stepOwed : Bool
  /-- Owed REPORT: subject code and index as received (R122). -/
  report : Option (Byte × Byte)
  deriving DecidableEq, Repr

/-! ### Phase watch (chapter 8) -/

/-- Echo modes (R130). -/
inductive EchoMode where
  | unused
  | every
  | fourth
  | sixteenth
  deriving DecidableEq, Repr

/-- Step status (R130). -/
inductive StepStatus where
  | inStep
  | outOfStep
  | silent
  | unused
  deriving DecidableEq, Repr

/-- The settings of a port's phase watch (R130). -/
structure EchoSettings where
  mode : EchoMode
  tolerance : Nat
  deriving DecidableEq, Repr

/-- One port's part of the phase watch (R130). -/
structure EchoWatch where
  settings : EchoSettings
  prescaler : Nat
  lastOffset : Int
  withinRun : Nat
  beyondRun : Nat
  frames : Nat
  status : StepStatus
  deriving DecidableEq, Repr

/-! ### Ambient sweep (chapter 9) -/

/-- Sensor states (R140). -/
inductive SensorState where
  | unseeded
  | good
  | faulted
  deriving DecidableEq, Repr

/-- One sensor (R140). -/
structure Sensor where
  state : SensorState
  last : Nat
  f : Nat
  railRun : Nat
  clearRun : Nat
  deriving DecidableEq, Repr

/-- IDLE, or SWEEPING with the sweep count it started with and the sensor being converted (R142). -/
inductive SweepState where
  | idle
  | sweeping (k : Nat) (sensor : SensorId)
  deriving DecidableEq, Repr

/-- The ambient sweep. -/
structure Ambient where
  sweep : SweepState
  sweepCount : Nat
  filterShift : Nat
  overrun : Bool
  sensors : Vector Sensor 8
  deriving DecidableEq, Repr

/-! ### Zone dimmer (chapter 10) -/

/-- The configuration of a zone (R150): `owner` none is no owner, `sensor` none is fixed. -/
structure ZoneConfig where
  owner : Option Port
  sensor : Option SensorId
  fixedAmbient : Nat
  curve : Vector Nat 9
  trim : Nat
  dmin : Nat
  dmax : Nat
  slew : Nat
  deriving DecidableEq, Repr

/-- A zone record (R150). -/
structure Zone where
  config : ZoneConfig
  ba : Nat
  g : Nat
  d : Nat
  buffer : Nat
  active : Nat
  deriving DecidableEq, Repr

/-- The zone dimmer (R150, R161). -/
structure Dimmer where
  zones : Vector Zone 8
  /-- Period P last handed over (R162). -/
  p : Nat
  counterPeriod : Nat
  counter : Nat
  /-- Base periods since the last count: the 20 MHz crystal divided by 16 is one count in 8 of them (R161). -/
  divider : Nat
  running : Bool
  deriving DecidableEq, Repr

/-! ### Settings page (chapter 11) -/

/-- The record of settings (R165). -/
structure Settings where
  timebase : Option Timebase
  common : WallCommon
  echo : Vector EchoSettings 6
  zones : Vector ZoneConfig 8
  permits : Vector Permission 6
  deriving DecidableEq, Repr

/-- The phases of a save (R167). -/
inductive SavePhase where
  | erase
  | program
  | check
  | mark
  deriving DecidableEq, Repr

/-- States of the settings page (R165); LOADING tells whether the load has begun (R169). -/
inductive SpState where
  | loading (begun : Bool)
  | idle
  | saving (phase : SavePhase) (snapshot : Settings)
  deriving DecidableEq, Repr

/-- The settings page (R165): the non-volatile record (none when blank) with its validity marker, and the SP state. -/
structure SettingsPage where
  state : SpState
  record : Option Settings
  marker : Bool
  deriving DecidableEq, Repr

/-! ### The part -/

/-- The whole state of the part, the queue of waiting commands, and the counter of the free values. -/
structure State where
  wtb : Wtb
  links : Vector Link 6
  eu : EditUnit
  sched : Schedule
  composers : Vector Composer 6
  watch : Vector EchoWatch 6
  ambient : Ambient
  dimmer : Dimmer
  page : SettingsPage
  /-- Commands waiting, first in first out. -/
  pending : List Instr
  /-- The model's own counter that the free values of `Config` are applied to. -/
  freeCount : Nat
  deriving DecidableEq, Repr

/-- The faults of the machine. The spec describes no event that stops the part (INVENTORY.md, Faults): no
meaning raises a fault, and the type has no constructor. -/
inductive Fault where
  deriving DecidableEq, Repr

/-- The refusals of the machine. -/
inductive Refusal where
  /-- Raised by `exec` for a command that has no meaning yet; safe. No arm answers with it. -/
  | notModelled (mnemonic : String)
  deriving DecidableEq, Repr

/-! ### Reset values -/

/-- All sticky flags clear (R36). -/
def StickyFlags.clear : StickyFlags := ⟨false, false, false, false, false, false⟩

/-- The default record of every port (R77). -/
def Permission.default : Permission :=
  ⟨some (0, 255), 0b111111, ⟨true, true, true, true⟩⟩

/-- The default configuration of every zone (R164, R169). -/
def ZoneConfig.default : ZoneConfig where
  owner := none
  sensor := none
  fixedAmbient := 512
  curve := #v[0, 125, 250, 375, 500, 625, 750, 875, 1000]
  trim := 64
  dmin := 0
  dmax := 1000
  slew := 1000

/-- The default wall settings without a timebase (R18, R169). -/
def WallCommon.default : WallCommon := ⟨0, 1, 3, 2000⟩

/-- The wall timebase after power-on or pin reset (R18). -/
def Wtb.reset : Wtb where
  state := .unset
  w := 0
  c := 0
  prescaleCount := 0
  timebase := none
  common := .default
  pending := none
  missRun := 0
  relockRun := 0
  interval := none
  relockFrame := false
  glitch := false
  postscaler := 0
  frameHigh := false

/-- A port after power-on or pin reset (R36); the level of CTS is the outside's (log 9). -/
def Link.reset (cts : Bool) : Link where
  receiver := .stopped
  rx := .hunting
  detector := .stopped
  holding := none
  flags := .clear
  tx := .idle
  cts := cts

/-- The edit unit after power-on or pin reset (R91); the permission records until the load ends are log 15. -/
def EditUnit.reset : EditUnit where
  state := .idle
  pointer := 0
  slots := Vector.replicate 6 []
  permits := Vector.replicate 6 .default
  lock := false

/-- The schedule after power-on or pin reset (R70, R115, R129). -/
def Schedule.reset : Schedule where
  live := []
  outcomes := []
  take := Vector.replicate 6 false
  aborts := Vector.replicate 6 []

/-- A notice composer after power-on or pin reset (R129). -/
def Composer.reset : Composer := ⟨false, none⟩

/-- One port's phase watch after power-on or pin reset (R139). -/
def EchoWatch.reset : EchoWatch where
  settings := ⟨.unused, 0⟩
  prescaler := 0
  lastOffset := 0
  withinRun := 0
  beyondRun := 0
  frames := 0
  status := .unused

/-- A sensor after power-on or pin reset (R149). -/
def Sensor.reset : Sensor := ⟨.unseeded, 0, 0, 0, 0⟩

/-- The ambient sweep after power-on or pin reset (R149). -/
def Ambient.reset : Ambient where
  sweep := .idle
  sweepCount := 0
  filterShift := 3
  overrun := false
  sensors := Vector.replicate 8 .reset

/-- A zone after power-on or pin reset (R164). -/
def Zone.reset : Zone := ⟨.default, 0, 256, 0, 0, 0⟩

/-- The zone dimmer after power-on or pin reset (R164). -/
def Dimmer.reset : Dimmer where
  zones := Vector.replicate 8 .reset
  p := 2000
  counterPeriod := 2000
  counter := 0
  divider := 0
  running := false

/-- The part right after power-on reset, before the load begins (R169); nothing has been saved yet (log 14). -/
def State.reset : State where
  wtb := .reset
  links := Vector.replicate 6 (.reset false)
  eu := .reset
  sched := .reset
  composers := Vector.replicate 6 .reset
  watch := Vector.replicate 6 .reset
  ambient := .reset
  dimmer := .reset
  page := ⟨.loading false, none, false⟩
  pending := []
  freeCount := 0

end Sys2Proof.Machine
end

