-- ==== Sys2Proof/Machine/Ops.lean ====
section
/-! DEFINITION. Operations shared by the blocks: entries of the per-port, per-zone and per-sensor vectors, sets of ports,
and the signed frame difference. -/

namespace Sys2Proof.Machine

/-- The vector with its entry `i` changed by `f`. -/
def modifyAt {α : Type} {n : Nat} (v : Vector α n) (i : Fin n) (f : α → α) : Vector α n :=
  v.set i (f v[i])

/-- The vector with every entry changed by `f`, which is told the index. -/
def mapAt {α β : Type} {n : Nat} (f : Fin n → α → β) (v : Vector α n) : Vector β n :=
  Vector.ofFn fun i => f i v[i]

/-- The six ports in order. -/
def allPorts : List Port := [0, 1, 2, 3, 4, 5]

/-- Whether a set of ports holds the port (R52, Bit sets). -/
def inMask (m : PortMask) (p : Port) : Bool :=
  m.getLsbD p.val

/-- The set of the ports for which `f` holds. -/
def maskOf (f : Port → Bool) : PortMask :=
  allPorts.foldl (fun m p => if f p then m ||| (1#6 <<< p.val) else m) 0#6

/-- "fire minus W": the difference of two frame numbers read as a signed 32-bit number (00, Conventions). -/
def frameDiff (x w : Frame) : Int :=
  (x - w).toInt

/-- `x` kept within `lo` and `hi`, for `lo` at most `hi`. -/
def clampNat (lo hi x : Nat) : Nat :=
  if x < lo then lo else if hi < x then hi else x

end Sys2Proof.Machine
end

