-- ==== Sys2Proof/Machine/Operands.lean ====
section
/-! DEFINITION. Messages and their characters: parity (R20), request kinds and lengths (R23), fields of the requests
(R37, R39 to R46, R52), and numbers written as characters (R37). -/

namespace Sys2Proof.Machine

/-! ### Characters -/

/-- The number of ones among the data bits of a character. -/
def dataOnes (b : Byte) : Nat :=
  [0, 1, 2, 3, 4, 5, 6, 7].foldl (fun n i => n + (b.getLsbD i).toNat) 0

/-- The parity bit that makes the ones of data bits, mark bit and parity bit even in number (R20). -/
def evenParity (data : Byte) (mark : Bool) : Bool :=
  (dataOnes data + mark.toNat) % 2 == 1

/-- Whether the parity of a received character is correct (R20, R21). -/
def parityOk (ch : LineChar) : Bool :=
  ch.parity == evenParity ch.data ch.mark

/-- A character as the transmitter sends it (R20, R30): even parity, stop bit mark. -/
def outgoing (first : Bool) (b : Byte) : LineChar :=
  ⟨b, first, evenParity b first, true⟩

/-- A received character with correct parity and a mark stop bit is good (R21). -/
def goodChar (ch : LineChar) : Bool :=
  parityOk ch && ch.stopMark

/-! ### Kinds -/

/-- The request kinds (R23). -/
inductive RequestKind where
  | cuePut
  | cueDrop
  | zoneSet
  | wallSet
  | phaseSet
  | permit
  | lock
  | save
  | ready
  | unready
  | query
  deriving DecidableEq, Repr

/-- The request kind of a kind code, none for a code that is no request kind (R22, R23). -/
def requestKind (code : Byte) : Option RequestKind :=
  match code.toNat with
  | 16 => some .cuePut
  | 17 => some .cueDrop
  | 18 => some .zoneSet
  | 19 => some .wallSet
  | 20 => some .phaseSet
  | 21 => some .permit
  | 22 => some .lock
  | 23 => some .save
  | 32 => some .ready
  | 33 => some .unready
  | 34 => some .query
  | _ => none

/-- Whether a kind is an edit (R26). -/
def RequestKind.isEdit : RequestKind → Bool
  | .ready => false
  | .unready => false
  | .query => false
  | .cuePut => true
  | .cueDrop => true
  | .zoneSet => true
  | .wallSet => true
  | .phaseSet => true
  | .permit => true
  | .lock => true
  | .save => true

/-- The characters a CUE_PUT keeps at most, the length with six participants (R23). -/
def bufferCap : Nat := 43

/-! ### Fields of a message -/

/-- The character at a position, counted from 1 at the kind character (R37). -/
def Message.char (m : Message) (pos : Nat) : Byte :=
  m.getD (pos - 1) 0

/-- A one-character field as a number (R37). -/
def Message.num (m : Message) (pos : Nat) : Nat :=
  (m.char pos).toNat

/-- A two-character field: most significant character first (R37). -/
def Message.num2 (m : Message) (pos : Nat) : Nat :=
  256 * m.num pos + m.num (pos + 1)

/-- A four-character field: most significant character first (R37). -/
def Message.num4 (m : Message) (pos : Nat) : Nat :=
  65536 * m.num2 pos + m.num2 (pos + 2)

/-- The kind of a message, by its first character (R37). -/
def Message.kind (m : Message) : Option RequestKind :=
  requestKind (m.char 1)

/-- The tag of an edit (R38). -/
def Message.tag (m : Message) : Byte :=
  m.char 2

/-- The length of a message whose characters received so far are `buffer` (R23). A CUE_PUT shows its length only
with its 25th character: none until then. -/
def messageLength (buffer : List Byte) : Option Nat :=
  match Message.kind buffer with
  | some .cuePut => if buffer.length < 25 then none else some (25 + 3 * Message.num buffer 25)
  | some .cueDrop => some 3
  | some .zoneSet => some 32
  | some .wallSet => some 11
  | some .phaseSet => some 6
  | some .permit => some 7
  | some .lock => some 2
  | some .save => some 2
  | some .ready => some 4
  | some .unready => some 3
  | some .query => some 3
  | none => none

/-- The cue id that an EDIT_RESULT carries (R51): that of a CUE_PUT or CUE_DROP, 0 for every other kind. -/
def Message.resultCueId (m : Message) : Byte :=
  match m.kind with
  | some .cuePut | some .cueDrop => m.char 3
  | _ => 0

/-- The transition of a code (R52). -/
def transitionOf (code : Nat) : Option Transition :=
  match code with
  | 0 => some .cut
  | 1 => some .dim
  | _ => none

/-- The policy of a code (R52). -/
def policyOf (code : Nat) : Option Policy :=
  match code with
  | 0 => some .defer
  | 1 => some .partialTake
  | 2 => some .cancel
  | _ => none

/-- The source of a code (R52). -/
def sourceOf (code : Nat) : Option Source :=
  match code with
  | 0 => some .internal
  | 1 => some .reference
  | _ => none

/-- The echo mode of a code (R52). -/
def echoModeOf (code : Nat) : Option EchoMode :=
  match code with
  | 0 => some .unused
  | 1 => some .every
  | 2 => some .fourth
  | 3 => some .sixteenth
  | _ => none

/-- The port of a number, none above 5. -/
def portOf (n : Nat) : Option Port :=
  if h : n < 6 then some ⟨n, h⟩ else none

/-- The zone of a number, none above 7. -/
def zoneOf (n : Nat) : Option ZoneId :=
  if h : n < 8 then some ⟨n, h⟩ else none

/-- The port field of participant `k` of a CUE_PUT, from 1 (R52, Requests). -/
def Message.entryPort (m : Message) (k : Nat) : Nat :=
  m.num (23 + 3 * k)

/-- The clip token of participant `k` of a CUE_PUT, from 1 (R52, Requests). -/
def Message.entryToken (m : Message) (k : Nat) : Token :=
  BitVec.ofNat 16 (m.num2 (24 + 3 * k))

/-- The participant entries that a CUE_PUT's slot holds: its n, at most six (R23, R79). -/
def Message.entries (m : Message) : List (Nat × Token) :=
  ((List.range 6).take (m.num 25)).map fun k => (m.entryPort (k + 1), m.entryToken (k + 1))

/-! ### Numbers as characters -/

/-- A number as one character. -/
def char1 (n : Nat) : Byte :=
  BitVec.ofNat 8 n

/-- A number as two characters, most significant first (R37). -/
def chars2 (n : Nat) : List Byte :=
  [char1 (n / 256), char1 n]

/-- A frame number as four characters, most significant first (R37). -/
def chars4 (f : Frame) : List Byte :=
  chars2 (f.toNat / 65536) ++ chars2 f.toNat

/-- A signed 16-bit number as two characters (R37). -/
def charsSigned (i : Int) : List Byte :=
  chars2 (BitVec.ofInt 16 i).toNat

end Sys2Proof.Machine
end

