-- ==== Sys2Proof/Machine/Notices.lean ====
section
/-! DEFINITION. The cue notices that the composers owe: how a new duty merges with an owed notice (R117, R118), how a
retirement settles a cue on every port (R119), and the retired ABORT lists (R120). -/

namespace Sys2Proof.Machine

/-- Nothing owed and both marks clear: a new cue on every port (R116). -/
def PortNotice.blank : PortNotice := ⟨none, false, false⟩

/-- The table of R118: the notice owed after a new duty meets the notice already owed. -/
def mergeDuty (duty : CueNotice) (owed : Option CueNotice) (askedSent : Bool) : Option CueNotice :=
  match duty, owed with
  | _, none => some duty
  | .prepare, some (.abort r) => some (.abort r)
  | .prepare, some _ => some .prepare
  | .defer, some .prepare => some .prepare
  | .defer, some (.abort r) => some (.abort r)
  | .defer, some _ => some .defer
  | .commit, some (.abort r) => some (.abort r)
  | .commit, some _ => some .commit
  | .abort r, some .prepare => if askedSent then some (.abort r) else none
  | .abort r, some _ => some (.abort r)

/-- A duty handed to a composer for a live cue: not taken once an ABORT has been sent (R117), else merged (R118). -/
def PortNotice.offer (duty : CueNotice) (n : PortNotice) : PortNotice :=
  if n.abortSent then n else { n with owed := mergeDuty duty n.owed n.askedSent }

/-- The ABORT that the retirement of a cue leaves on a port (R119), from what was owed there, the sent-history and the
ABORT duty that the retirement hands to the port. -/
def PortNotice.settle (duty : Option AbortReason) (n : PortNotice) : Option AbortReason :=
  match duty with
  | none =>
    match n.owed with
    | some (.abort r) => some r
    | some .prepare => none
    | some .defer => none
    | some .commit => none
    | none => none
  | some r =>
    if n.abortSent then none
    else if n.owed = some .prepare ∧ n.askedSent = false then none
    else some r

/-- Sending an owed cue notice: it is no longer owed, and the sent-history is set (R117, R124). -/
def PortNotice.sent (n : PortNotice) : PortNotice :=
  match n.owed with
  | some .prepare => { n with owed := none, askedSent := true }
  | some .defer => { n with owed := none, askedSent := true }
  | some .commit => { n with owed := none }
  | some (.abort _) => { n with owed := none, abortSent := true }
  | none => n

/-- The size of the retired ABORT list and of the outcome list (R66, R120). -/
def listCap : Nat := 16

/-- Appends at the newest end; a list that already holds 16 loses its oldest entry (R66, R120). -/
def appendCapped {α : Type} (l : List α) (x : α) : List α :=
  (l ++ [x]).drop (l.length + 1 - listCap)

end Sys2Proof.Machine
end

