-- ==== Sys2Proof/Machine/CueTable.lean ====
section
/-! DEFINITION. The cue table: fire order (R59), storing and removing records (R61 to R64), the clash test (R63), the
lookups (R65), the outcome list (R66, R67), and the values a CUE_PUT stores (R57, R58). -/

namespace Sys2Proof.Machine

/-- The table holds 64 places (R53). -/
def tablePlaces : Nat := 64

/-- Fire minus W of a cue (00, Conventions). -/
def Cue.ahead (c : Cue) (w : Frame) : Int :=
  frameDiff c.fire w

/-- Fire order (R59): smaller fire minus W first, and the smaller cue id first for one fire frame. -/
def Cue.before (w : Frame) (a b : Cue) : Bool :=
  decide (a.ahead w < b.ahead w) || (decide (a.ahead w = b.ahead w) && decide (a.id.toNat < b.id.toNat))

/-- A cue placed in a table that is kept in fire order (R59): every other cue keeps its place relative to the rest. -/
def insertCue (w : Frame) (c : Cue) : List Cue → List Cue
  | [] => [c]
  | x :: xs => if c.before w x then c :: x :: xs else x :: insertCue w c xs

/-- The table without the record of a cue id. -/
def removeCue (id : Byte) (l : List Cue) : List Cue :=
  l.filter fun c => c.id != id

/-- Lookup by cue id (R65). -/
def findCue (id : Byte) (l : List Cue) : Option Cue :=
  l.find? fun c => c.id == id

/-- A changed record in the place of the old record of its id, at its own position in fire order. -/
def Schedule.putCue (w : Frame) (c : Cue) (s : Schedule) : Schedule :=
  { s with live := insertCue w c (removeCue c.id s.live) }

/-- A record changed where it stands, its fire frame and id being kept: fire order is as it was (R59). -/
def Schedule.updateCue (id : Byte) (f : Cue → Cue) (s : Schedule) : Schedule :=
  { s with live := s.live.map fun c => if c.id == id then f c else c }

/-- Whether the port is a participant of the cue (R55). -/
def Cue.hasPort (c : Cue) (p : Port) : Bool :=
  c.participants.any fun x => x.port == p

/-- The clip token of a port in a cue (R55); 0 for a port that is no participant. -/
def Cue.tokenOf (c : Cue) (p : Port) : Token :=
  ((c.participants.find? fun x => x.port == p).map (·.token)).getD 0

/-- The set of the participants' ports (R55). -/
def Cue.portMask (c : Cue) : PortMask :=
  maskOf c.hasPort

/-- The clash test (R63): whether a live cue names one of `ports` and has the fire frame `f`. -/
def clashes (live : List Cue) (ports : Port → Bool) (f : Frame) : Bool :=
  live.any fun c => decide (c.fire = f) && c.participants.any fun x => ports x.port

/-- The outcome list with an entry appended (R66). -/
def Schedule.record (e : OutcomeEntry) (s : Schedule) : Schedule :=
  { s with outcomes := appendCapped s.outcomes e }

/-- Outcome lookup by cue id: the most recently appended entry (R65, R69). -/
def findOutcome (id : Byte) (l : List OutcomeEntry) : Option OutcomeEntry :=
  l.reverse.find? fun e => e.id == id

/-! ### Stored values (R57, R58) -/

/-- Lo or Li as stored (R57, step 1). -/
def storedFade (received : Nat) : Nat :=
  clampNat 1 32 received

/-- The margin after step 2 of R57: at least Lo + 1 for a DIM cue and at least 1 for a CUT cue. -/
def raisedMargin (t : Transition) (lo margin : Nat) : Nat :=
  match t with
  | .dim => max margin (lo + 1)
  | .cut => max margin 1

/-- The largest lead (R57). -/
def maxLead : Nat := 4095

/-- Lead and margin after step 3 of R57, from the lead received and the margin of step 2. -/
def storedLeadMargin (lead margin : Nat) : Nat × Nat :=
  let raised := max lead (margin + 1)
  let stored := min raised maxLead
  (stored, if margin < stored then margin else maxLead - 1)

/-- The defer step as stored (R58). -/
def storedDeferStep (received : Nat) : Nat :=
  if received = 0 then 1 else received

/-- The deferral budget as stored (R58). -/
def storedMaxDeferrals (received : Nat) : Nat :=
  min received 7

/-- The repeat interval as stored: absent for 0 (R58). -/
def storedInterval (received : Nat) : Option Nat :=
  if received = 0 then none else some received

/-- The count that means endless (R58). -/
def endlessCount : Nat := 65535

/-- The count of the next repetition: one less, an endless count unchanged (R58, R68). -/
def nextCount (count : Nat) : Nat :=
  if count = endlessCount then endlessCount else count - 1

end Sys2Proof.Machine
end

