-- ==== Sys2Proof/Machine/Dimmer.lean ====
section
/-! DEFINITION. The zone dimmer on its own state (chapter 10): the clamps of a ZONE_SET, the computation at a strobe, the
fade factor, the PWM counter and the outputs. -/

namespace Sys2Proof.Machine

/-! ### The computation at a strobe (R152 to R160) -/

/-- The ambient value of a zone (R153). -/
def ZoneConfig.ambient (sensors : Vector Sensor 8) (z : ZoneConfig) : Nat :=
  match z.sensor with
  | none => z.fixedAmbient * 64
  | some i =>
    match sensors[i].state with
    | .unseeded => z.fixedAmbient * 64
    | .good | .faulted => sensors[i].f

/-- The distance of two breakpoints on the filtered scale (R154). -/
def segmentWidth : Nat := 8192

/-- Breakpoint `i` of a curve, 0 to 8. -/
def ZoneConfig.breakpoint (z : ZoneConfig) (i : Nat) : Nat :=
  z.curve[Fin.ofNat 9 i]

/-- The curve's target at an ambient value (R154): the quotient is truncated toward zero. -/
def ZoneConfig.target (f : Nat) (z : ZoneConfig) : Nat :=
  let i := f / segmentWidth
  let r := f % segmentWidth
  ((z.breakpoint i : Int)
    + (((z.breakpoint (i + 1) : Int) - z.breakpoint i) * r).tdiv segmentWidth).toNat

/-- The clamped base (R155). -/
def ZoneConfig.clampedBase (target : Nat) (z : ZoneConfig) : Nat :=
  clampNat z.dmin z.dmax (target * z.trim / 64)

/-- The applied base moves toward the clamped base by at most the slew (R156). -/
def slewTo (slew ba base : Nat) : Nat :=
  if ba + slew < base then ba + slew else if base + slew < ba then ba - slew else base

/-- The factor of one cue at its fire minus W (R157); none outside its fade windows. -/
def fadeAt (lo li : Nat) (ahead : Int) : Option Nat :=
  if 0 ≤ ahead ∧ ahead < lo then some (256 - 256 * (lo - ahead.toNat) / lo)
  else if -(li : Int) ≤ ahead ∧ ahead < 0 then some (256 * (-ahead).toNat / li)
  else none

/-- Whether the fade lookup for a port finds the cue (R65): a DIM cue in ARMED or TAKEN whose armed mask holds it. -/
def Cue.fades (c : Cue) (p : Port) : Bool :=
  decide (c.transition = .dim) && (decide (c.state = .armed) || decide (c.state = .taken)) && inMask c.armed p

/-- The factor that a cue gives the zones of a port (R157). -/
def Cue.fadeFactor (w : Frame) (p : Port) (c : Cue) : Option Nat :=
  if c.fades p then fadeAt c.lo c.li (c.ahead w) else none

/-- A zone's fade factor (R157): the least factor of the cues in a window, 256 when there is none or no owner. -/
def fadeFactor (w : Frame) (live : List Cue) (owner : Option Port) : Nat :=
  match owner with
  | none => 256
  | some p => live.foldl (fun g c => min g ((c.fadeFactor w p).getD 256)) 256

/-- The duty (R159). -/
def dutyOf (ba g : Nat) : Nat :=
  ba * g / 256

/-- The compare value (R160). -/
def compareOf (d p : Nat) : Nat :=
  (d * p + 500) / 1000

/-- The computation of one zone at a strobe (R152): new Ba, g, D and compare buffer. -/
def Zone.compute (w : Frame) (live : List Cue) (sensors : Vector Sensor 8) (p : Nat) (z : Zone) : Zone :=
  let base := z.config.clampedBase (z.config.target (z.config.ambient sensors))
  let ba := slewTo z.config.slew z.ba base
  let g := fadeFactor w live z.config.owner
  let d := dutyOf ba g
  { z with ba := ba, g := g, d := d, buffer := compareOf d p }

/-- The zone dimmer at a strobe (R152, R162). `handed` is the period handed over at this strobe, if any; the compare
values use it when the hand-over is taken first and the old period otherwise. -/
def Dimmer.strobe (w : Frame) (live : List Cue) (sensors : Vector Sensor 8) (handed : Option Nat)
    (handoverFirst : Bool) (d : Dimmer) : Dimmer :=
  let p' := handed.getD d.p
  { d with
    zones := mapAt (fun _ z => z.compute w live sensors (if handoverFirst then p' else d.p)) d.zones
    p := p' }

/-! ### PWM (R161, R162) -/

/-- A wrap of the PWM counter (R161, R162). A counter that does not run does not wrap (R164). -/
def Dimmer.wrap (d : Dimmer) : Dimmer :=
  if d.running then
    { d with
      zones := mapAt (fun _ z => { z with active := z.buffer }) d.zones
      counterPeriod := d.p
      counter := 0
      divider := 0 }
  else d

/-- Base periods in one count of the PWM counter: 20 MHz / 16 (R161). -/
def pwmDivision : Nat := 8

/-- One 10 MHz base period passes (R161): the counter counts every 8th, and the count after the last is a wrap. -/
def Dimmer.basePeriod (d : Dimmer) : Dimmer :=
  if d.running then
    if d.divider + 1 < pwmDivision then { d with divider := d.divider + 1 }
    else if d.counter + 1 < d.counterPeriod then { d with divider := 0, counter := d.counter + 1 }
    else d.wrap
  else d

/-- The dimming output of a zone (R161, R164): high while the active compare is greater than the counter. -/
def Dimmer.output (d : Dimmer) (z : ZoneId) : Bool :=
  d.running && decide (d.counter < d.zones[z].active)

/-- A period handed over outside a strobe (R162). -/
def Dimmer.handover (common : WallCommon) (d : Dimmer) : Dimmer :=
  { d with p := common.pwmPeriod }

/-! ### Writing a zone (R151) -/

/-- A zone's configuration replaced, and its applied base clamped into the new limits (R151). -/
def Zone.configure (config : ZoneConfig) (z : Zone) : Zone :=
  { z with config := config, ba := clampNat config.dmin config.dmax z.ba }

/-- A zone at the end of the load (R164). -/
def Zone.loaded (config : ZoneConfig) : Zone := ⟨config, config.dmin, 256, 0, 0, 0⟩

end Sys2Proof.Machine
end

