-- ==== Sys2Proof/Machine/PhaseWatch.lean ====
section
/-! DEFINITION. The phase watch of one port on its own state (chapter 8): capture, offset, judgement, silence, settings
and resets. -/

namespace Sys2Proof.Machine

/-- The divisor of an echo mode (R131); UNUSED captures nothing and has none. -/
def EchoMode.divisor : EchoMode → Nat
  | .unused => 0
  | .every => 1
  | .fourth => 4
  | .sixteenth => 16

/-- A capturing mode (R130). -/
def EchoMode.capturing : EchoMode → Bool
  | .unused => false
  | .every | .fourth | .sixteenth => true

/-- The largest stored offset (R132). -/
def maxOffset : Int := 32767

/-- The offset of a capture at count `c` with period `n` (R132). -/
def captureOffset (c n : Nat) : Int :=
  min (if c < n / 2 then (c : Int) else (c : Int) - n) maxOffset

/-- Whether a capture is within (R133): the magnitude of the stored offset is at most the tolerance. -/
def EchoWatch.isWithin (e : EchoWatch) : Bool :=
  decide (e.lastOffset.natAbs ≤ e.settings.tolerance)

/-- A status with both runs set to 0 (R133 to R135). -/
def EchoWatch.become (status : StepStatus) (e : EchoWatch) : EchoWatch :=
  { e with status := status, withinRun := 0, beyondRun := 0 }

/-- The judgement of a capture whose offset is the last offset (R133, R135). -/
def EchoWatch.judge (e : EchoWatch) : EchoWatch :=
  match e.status with
  | .inStep =>
    if e.isWithin then { e with beyondRun := 0 }
    else if e.beyondRun + 1 < 3 then { e with beyondRun := e.beyondRun + 1, withinRun := 0 }
    else e.become .outOfStep
  | .outOfStep =>
    if !e.isWithin then { e with withinRun := 0 }
    else if e.withinRun + 1 < 3 then { e with withinRun := e.withinRun + 1, beyondRun := 0 }
    else e.become .inStep
  | .silent => e.become (if e.isWithin then .inStep else .outOfStep)
  | .unused => e

/-- A capture with its offset (R132). -/
def EchoWatch.capture (offset : Int) (e : EchoWatch) : EchoWatch :=
  { e with prescaler := 0, lastOffset := offset, frames := 0 }.judge

/-- A rising edge on the echo input while the timebase runs (R131): `c` and `n` are the count and the active N. -/
def EchoWatch.edge (c n : Nat) (e : EchoWatch) : EchoWatch :=
  if e.settings.mode.capturing then
    if e.prescaler + 1 < e.settings.mode.divisor then { e with prescaler := e.prescaler + 1 }
    else e.capture (captureOffset c n)
  else e

/-- Strobes without a capture after which a port is SILENT (R134). -/
def silentAfter : Nat := 64

/-- A strobe (R134). -/
def EchoWatch.strobe (e : EchoWatch) : EchoWatch :=
  if e.settings.mode.capturing then
    let counted := { e with frames := min (e.frames + 1) silentAfter }
    match e.status with
    | .inStep | .outOfStep => if e.frames + 1 < silentAfter then counted else counted.become .silent
    | .silent | .unused => counted
  else e

/-- The step status after a change of mode (R137). -/
def statusAfterMode (before after : EchoMode) (status : StepStatus) : StepStatus :=
  if after.capturing then (if before.capturing then status else .inStep) else .unused

/-- An accepted PHASE_SET (R137). -/
def EchoWatch.set (settings : EchoSettings) (e : EchoWatch) : EchoWatch where
  settings := settings
  prescaler := 0
  lastOffset := e.lastOffset
  withinRun := 0
  beyondRun := 0
  frames := 0
  status := statusAfterMode e.settings.mode settings.mode e.status

/-- A port with settings and its working state cleared: at a port reset (R138) and at the end of the load (R139). -/
def EchoWatch.fresh (settings : EchoSettings) : EchoWatch where
  settings := settings
  prescaler := 0
  lastOffset := 0
  withinRun := 0
  beyondRun := 0
  frames := 0
  status := if settings.mode.capturing then .inStep else .unused

/-- The composer after a change of a port's step status: a changed status makes a STEP owed (R121, R136). -/
def Composer.noteStatus (before after : StepStatus) (c : Composer) : Composer :=
  if before = after then c else { c with stepOwed := true }

end Sys2Proof.Machine
end

