-- ==== Sys2Proof/Machine/Page.lean ====
section
/-! DEFINITION. The settings page (chapter 11): the record, the snapshot of a save, its phases, and the defaults. -/

namespace Sys2Proof.Machine

/-- The defaults of R169. -/
def Settings.default : Settings where
  timebase := none
  common := .default
  echo := Vector.replicate 6 ⟨.unused, 0⟩
  zones := Vector.replicate 8 .default
  permits := Vector.replicate 6 .default

/-- The snapshot of the running settings (R165, R166): the active wall set, not a pending one. -/
def State.settings (s : State) : Settings where
  timebase := s.wtb.timebase
  common := s.wtb.common
  echo := mapAt (fun _ e => e.settings) s.watch
  zones := mapAt (fun _ z => z.config) s.dimmer.zones
  permits := s.eu.permits

/-- The start of a save (R166, R167): the snapshot is taken, and the marker is absent as the erase begins. -/
def SettingsPage.beginSave (snapshot : Settings) (p : SettingsPage) : SettingsPage :=
  { p with state := .saving .erase snapshot, marker := false }

/-- The end of the erase phase (R167): a blank page. -/
def SettingsPage.erased (p : SettingsPage) : SettingsPage :=
  match p.state with
  | .saving .erase snapshot => { p with state := .saving .program snapshot, record := none }
  | .saving .program _ | .saving .check _ | .saving .mark _ | .loading _ | .idle => p

/-- The end of the program phase (R167): the snapshot is written. -/
def SettingsPage.programmed (p : SettingsPage) : SettingsPage :=
  match p.state with
  | .saving .program snapshot => { p with state := .saving .check snapshot, record := some snapshot }
  | .saving .erase _ | .saving .check _ | .saving .mark _ | .loading _ | .idle => p

/-- Whether the save is in a phase. -/
def SettingsPage.inPhase (phase : SavePhase) (p : SettingsPage) : Bool :=
  match p.state with
  | .saving q _ => decide (q = phase)
  | .loading _ | .idle => false

/-- A matching read-back begins the mark phase (R167). -/
def SettingsPage.matched (p : SettingsPage) : SettingsPage :=
  match p.state with
  | .saving .check snapshot => { p with state := .saving .mark snapshot }
  | .saving .erase _ | .saving .program _ | .saving .mark _ | .loading _ | .idle => p

/-- The end of a save (R167): IDLE, with the marker present only after the mark phase. -/
def SettingsPage.endSave (marked : Bool) (p : SettingsPage) : SettingsPage :=
  { p with state := .idle, marker := marked }

/-- The settings that a load takes (R169): the page's record when the marker is present, else the defaults. -/
def SettingsPage.loadedSettings (p : SettingsPage) : Settings :=
  if p.marker then p.record.getD .default else .default

end Sys2Proof.Machine
end

