-- ==== Sys2Proof/Machine/EditUnit.lean ====
section
/-! DEFINITION. The edit unit's slots and arbiter (R71 to R75), the completion of an edit (R73, R76, R89), and the holding
slot's move into a freed edit slot (R27). -/

namespace Sys2Proof.Machine

/-- The link of a port changed. -/
def State.modifyLink (p : Port) (f : Link → Link) (s : State) : State :=
  { s with links := modifyAt s.links p f }

/-- The edit slots of a port changed. -/
def State.modifySlots (p : Port) (f : List EditSlot → List EditSlot) (s : State) : State :=
  { s with eu := { s.eu with slots := modifyAt s.eu.slots p f } }

/-- Each port has two edit slots (R71). -/
def slotCount : Nat := 2

/-- The name of an EMPTY slot of a port; A when both are EMPTY (log 12). -/
def freeSlotName (slots : List EditSlot) : SlotName :=
  if slots.any fun x => decide (x.name = .a) then .b else .a

/-- An edit in an EMPTY slot, QUEUED as the port's newest (R71, R72). -/
def enqueue (m : Message) (slots : List EditSlot) : List EditSlot :=
  slots ++ [⟨freeSlotName slots, m, .queued⟩]

/-- The head of a port: its oldest QUEUED slot (R72). -/
def headOf (slots : List EditSlot) : Option EditSlot :=
  slots.find? fun x => decide (x.status = .queued)

/-- The port's head becomes ACTIVE (R75). -/
def activateHead : List EditSlot → List EditSlot
  | [] => []
  | x :: xs => if x.status = .queued then { x with status := .active false } :: xs else x :: activateHead xs

/-- The first port with a head, from the round-robin pointer on (R75). -/
def EditUnit.nextPort (eu : EditUnit) : Option Port :=
  (allPorts.map fun k => eu.pointer + k).find? fun p => (headOf eu.slots[p]).isSome

/-- Whether the arbiter taking this edit of this port starts a save (R74, R88). -/
def EditUnit.startsSave (eu : EditUnit) (p : Port) (slot : EditSlot) : Bool :=
  decide (Message.kind slot.edit = some .save) && eu.permits[p].rights.save

/-- The arbiter (R74, R75, R88, R166): an IDLE edit unit takes the head of the first port from the pointer on. -/
def State.arbitrate (s : State) : State :=
  if s.eu.state = .idle then
    match s.eu.nextPort with
    | none => s
    | some p =>
      match headOf s.eu.slots[p] with
      | none => s
      | some slot =>
        let eu := { s.eu with slots := modifyAt s.eu.slots p activateHead, pointer := p + 1 }
        if s.eu.startsSave p slot then
          { s with eu := { eu with state := .storing }, page := s.page.beginSave s.settings }
        else { s with eu := { eu with state := .working } }
  else s

/-- A message placed in the holding slot that is an edit (R26, R27): into an EMPTY edit slot, with the arbiter's test,
or it waits. -/
def State.placeEdit (p : Port) (m : Message) (s : State) : State :=
  if s.eu.slots[p].length < slotCount then (s.modifySlots p (enqueue m)).arbitrate
  else s.modifyLink p fun l => { l with holding := some m }

/-- A waiting edit moves from the holding slot into a freed edit slot (R27). -/
def State.refill (p : Port) (s : State) : State :=
  match s.links[p].holding with
  | none => s
  | some m =>
    if s.eu.slots[p].length < slotCount then
      (s.modifySlots p (enqueue m)).modifyLink p fun l => { l with holding := none }
    else s

/-- The ACTIVE slot with its port, if any (R74). -/
def EditUnit.active (eu : EditUnit) : Option (Port × EditSlot) :=
  allPorts.findSome? fun p =>
    (eu.slots[p].find? fun x => decide (x.status = .active false) || decide (x.status = .active true)).map
      fun x => (p, x)

/-- Completion of the ACTIVE slot (R73, R89): DONE with its outcome, or EMPTY if it is orphaned. -/
def finishSlot (outcome : EditOutcome) (x : EditSlot) : Option EditSlot :=
  match x.status with
  | .active false => some { x with status := .done outcome }
  | .active true => none
  | .queued | .done _ => some x

/-- The edit unit after a completion on a port (R27, R73, R74, R89): the slot is settled, a waiting edit may move into a
freed slot, the unit is IDLE and applies the arbiter. -/
def State.finishEdit (p : Port) (outcome : EditOutcome) (s : State) : State :=
  let settled := s.modifySlots p fun l => l.filterMap (finishSlot outcome)
  ({ settled with eu := { settled.eu with state := .idle } }.refill p).arbitrate

/-- The completion of an ordinary edit of a kind (R76): judged on the state at completion, applied when ACCEPTED, and
finished. Nothing happens when no edit of the kind is being worked on. -/
def State.complete (kind : RequestKind) (outcome : Port → Message → State → EditOutcome)
    (apply : Port → Message → State → State) (s : State) : State :=
  if s.eu.state = .working then
    match s.eu.active with
    | none => s
    | some (p, slot) =>
      if Message.kind slot.edit = some kind then
        if outcome p slot.edit s = .accepted then (apply p slot.edit s).finishEdit p .accepted
        else s.finishEdit p (outcome p slot.edit s)
      else s
  else s

/-- The end of a save on the edit unit's side (R74, R88): the ACTIVE SAVE completes with the outcome. -/
def State.completeSave (outcome : EditOutcome) (s : State) : State :=
  match s.eu.active with
  | none => s
  | some (p, _) => s.finishEdit p outcome

/-- What a port reset does to an edit slot (R89). -/
def resetSlot (x : EditSlot) : Option EditSlot :=
  match x.status with
  | .queued => none
  | .active _ => some { x with status := .active true }
  | .done _ => none

/-- Whether a port's slot is DONE (R71). -/
def EditSlot.isDone (x : EditSlot) : Bool :=
  match x.status with
  | .done _ => true
  | .queued | .active _ => false

/-- The slots of a port after its earliest result is sent: that DONE slot is EMPTY (R73, R123). -/
def dropFirstDone : List EditSlot → List EditSlot
  | [] => []
  | x :: xs => if x.isDone then xs else x :: dropFirstDone xs

end Sys2Proof.Machine
end

