-- ==== Sys2Proof/Machine/Flags.lean ====
section
/-! DEFINITION. Bit sets within a character and the codes of named values (R52): sticky flags, rights, masks, packed
readiness, and the code of every state, outcome and reason. -/

namespace Sys2Proof.Machine

/-! ### Bit sets -/

/-- The sticky flags as a character: PARITY is bit 0, STRAY bit 5 (R52). -/
def StickyFlags.toByte (f : StickyFlags) : Byte :=
  char1 (f.parity.toNat + 2 * f.framing.toNat + 4 * f.overrun.toNat + 8 * f.truncated.toNat + 16 * f.badKind.toNat
    + 32 * f.stray.toNat)

/-- The rights as a character: ZONE, WALL, SAVE, PERMIT are bits 0 to 3 (R52). -/
def Rights.toByte (r : Rights) : Byte :=
  char1 (r.zone.toNat + 2 * r.wall.toNat + 4 * r.save.toNat + 8 * r.permit.toNat)

/-- The rights that a received character gives; bits 4 to 7 are ignored (R44). -/
def Rights.ofByte (b : Byte) : Rights :=
  ⟨b.getLsbD 0, b.getLsbD 1, b.getLsbD 2, b.getLsbD 3⟩

/-- The set of ports that a received character gives; bits 6 and 7 are ignored (R44). -/
def PortMask.ofByte (b : Byte) : PortMask :=
  b.setWidth 6

/-- A set of ports as a character; bits 6 and 7 are zero (R52). -/
def PortMask.toByte (m : PortMask) : Byte :=
  m.setWidth 8

/-! ### Codes -/

/-- Code of a transition (R52). -/
def Transition.code : Transition → Nat
  | .cut => 0
  | .dim => 1

/-- Code of a source (R52). -/
def Source.code : Source → Nat
  | .internal => 0
  | .reference => 1

/-- Code of an echo mode (R52). -/
def EchoMode.code : EchoMode → Nat
  | .unused => 0
  | .every => 1
  | .fourth => 2
  | .sixteenth => 3

/-- Code of a live cue's state (R52). -/
def CueState.code : CueState → Nat
  | .waiting => 0
  | .asking => 1
  | .armed => 2
  | .taken => 3

/-- Code of the cue state UNKNOWN (R52). -/
def unknownCode : Nat := 4

/-- Code of the cue state RETIRED (R52). -/
def retiredCode : Nat := 5

/-- Code of a readiness value (R52). -/
def Readiness.code : Readiness → Nat
  | .notAsked => 0
  | .asked => 1
  | .ready => 2
  | .refused _ => 3

/-- The reason character of a readiness entry: 0 unless REFUSED (R47). -/
def Readiness.reasonByte : Readiness → Byte
  | .notAsked => 0
  | .asked => 0
  | .ready => 0
  | .refused r => r

/-- Code of the outcome of a retired cue (R52). -/
def CueOutcome.code : CueOutcome → Nat
  | .taken => 0
  | .takenPartial => 1
  | .notReady => 2
  | .dropped => 3
  | .deferClash => 4

/-- Code of a continuation (R52). -/
def Continuation.code : Continuation → Nat
  | .none => 0
  | .rescheduled _ => 1
  | .endedCount => 2
  | .endedClash => 3

/-- The next fire frame as reported: 0 unless RESCHEDULED (R47, R67). -/
def Continuation.nextFire : Continuation → Frame
  | .none => 0
  | .rescheduled f => f
  | .endedCount => 0
  | .endedClash => 0

/-- Code of an ABORT reason (R52). -/
def AbortReason.code : AbortReason → Nat
  | .notReady => 1
  | .dropped => 2
  | .excluded => 3
  | .deferClash => 4

/-- Code of an edit outcome (R52). -/
def EditOutcome.code : EditOutcome → Nat
  | .accepted => 0
  | .noTimebase => 1
  | .isProtected => 2
  | .badField => 3
  | .inFlight => 4
  | .tooSoon => 5
  | .tooLate => 6
  | .clash => 7
  | .tableFull => 8
  | .unknownCue => 9
  | .locked => 10
  | .storeFault => 11

/-- Code of a step status (R52). -/
def StepStatus.code : StepStatus → Nat
  | .inStep => 0
  | .outOfStep => 1
  | .silent => 2
  | .unused => 3

/-- Code of a timebase state (R52); a relock frame is reported as LOCKED (R49). -/
def TimebaseState.code : TimebaseState → Nat
  | .unset => 0
  | .free => 1
  | .seeking => 2
  | .locked => 3
  | .holdover => 4

/-- Code of a sensor state (R52). -/
def SensorState.code : SensorState → Nat
  | .unseeded => 0
  | .good => 1
  | .faulted => 2

/-! ### Packed readiness -/

/-- The readiness of participant `k` (from 0) of a list; NOT_ASKED beyond the list (R47). -/
def readinessAt (ps : List Participant) (k : Nat) : Readiness :=
  (ps[k]?.map (·.readiness)).getD .notAsked

/-- Packed readiness of the four participants from number `k` (from 0), two bits each (R47, R52). -/
def packReadiness (ps : List Participant) (k : Nat) : Byte :=
  char1 ((readinessAt ps k).code + 4 * (readinessAt ps (k + 1)).code + 16 * (readinessAt ps (k + 2)).code
    + 64 * (readinessAt ps (k + 3)).code)

end Sys2Proof.Machine
end

