-- ==== Sys2Proof/Machine/Timebase.lean ====
section
/-! DEFINITION. The wall timebase on its own state (chapter 1): the passing of ticks, the strobe with the pending set and
the sweep postscaler, reference edges, relock, and the limits of a locked frame. -/

namespace Sys2Proof.Machine

/-- Division of the 10 MHz base by prescale code (R1, 1.1). -/
def prescaleDivision : Fin 3 → Nat
  | 0 => 1
  | 1 => 4
  | 2 => 16

/-- The active N; 0 while the timebase is UNSET (R16). -/
def Wtb.n (t : Wtb) : Nat :=
  (t.timebase.map (·.n)).getD 0

/-- The division of the active prescale code; 1 while there is none. -/
def Wtb.division (t : Wtb) : Nat :=
  (t.timebase.map fun b => prescaleDivision b.prescale).getD 1

/-- N/2, an integer division (R3). -/
def Wtb.half (t : Wtb) : Nat := t.n / 2

/-- N + N/8: the late limit of an ordinary locked frame and the top of the relock window (R3, R10, R14). -/
def Wtb.lateLimit (t : Wtb) : Nat := t.n + t.n / 8

/-- 2N + N/8: the limit of a relock frame (R12). -/
def Wtb.relockLimit (t : Wtb) : Nat := 2 * t.n + t.n / 8

/-- The count at which the frame in progress ends without an edge (R3). -/
def Wtb.limit (t : Wtb) : Nat :=
  match t.state with
  | .unset => 0
  | .free | .seeking | .holdover => t.n
  | .locked => if t.relockFrame then t.relockLimit else t.lateLimit

/-- Whether the timebase measures the reference (R10). -/
def TimebaseState.measures : TimebaseState → Bool
  | .seeking | .holdover => true
  | .unset | .free | .locked => false

/-- Whether the frame runs free at N (R3). -/
def TimebaseState.runsFree : TimebaseState → Bool
  | .free | .seeking | .holdover => true
  | .unset | .locked => false

/-- The interval count after `k` ticks (R10): an open count that passes N + N/8 closes. -/
def Wtb.intervalAfter (t : Wtb) (k : Nat) : Option Nat :=
  match t.interval with
  | none => none
  | some i => if i + k ≤ t.lateLimit then some (i + k) else none

/-- The relock run after `k` ticks (R10): an open interval count that passes N + N/8 clears it. -/
def Wtb.relockRunAfter (t : Wtb) (k : Nat) : Nat :=
  match t.interval with
  | none => t.relockRun
  | some i => if i + k ≤ t.lateLimit then t.relockRun else 0

/-- `k` ticks pass (R1, R3, R10): each advances the frame timer, and the interval count when it is open. Time that
ends at a tick finds the prescale counter at 0. Nothing counts in UNSET (R8). -/
def Wtb.passTicks (k : Nat) (t : Wtb) : Wtb :=
  if t.state = .unset then t
  else
    { t with
      c := t.c + k
      prescaleCount := if k = 0 then t.prescaleCount else 0
      interval := t.intervalAfter k
      relockRun := t.relockRunAfter k }

/-- At most `k` ticks pass: no time passes beyond the end of the frame in progress. -/
def Wtb.passUpTo (k : Nat) (t : Wtb) : Wtb :=
  t.passTicks (min k (t.limit - t.c))

/-- The ticks pass that the frame in progress still lacks. -/
def Wtb.passToLimit (t : Wtb) : Wtb :=
  t.passTicks (t.limit - t.c)

/-- One 10 MHz base period passes (R1): the prescale counter completes a division, or counts on. -/
def Wtb.basePeriod (t : Wtb) : Wtb :=
  if t.state = .unset then t
  else if t.prescaleCount + 1 < t.division then { t with prescaleCount := t.prescaleCount + 1 }
  else { t.passTicks 1 with prescaleCount := 0 }

/-- Entry into HOLDOVER (R10, R14, R15). -/
def Wtb.toHoldover (t : Wtb) : Wtb :=
  { t with state := .holdover, missRun := 0, relockRun := 0, interval := none }

/-! ### The strobe -/

/-- The state after a pending set with a source is applied (R5, table). -/
def TimebaseState.applied (source : Source) : TimebaseState → TimebaseState
  | .unset => .unset
  | .free => match source with | .internal => .free | .reference => .seeking
  | .seeking => match source with | .internal => .free | .reference => .seeking
  | .holdover => match source with | .internal => .free | .reference => .holdover
  | .locked => match source with | .internal => .free | .reference => .locked

/-- A pending set becomes the active set (R5). -/
def Wtb.apply (set : WallSet) (t : Wtb) : Wtb :=
  { t with
    state := t.state.applied set.timebase.source
    prescaleCount := 0
    timebase := some set.timebase
    common := set.common
    pending := none
    missRun := if t.state.applied set.timebase.source = .free then 0 else t.missRun
    relockRun := 0
    interval := none
    postscaler := 0 }

/-- Whether this step of the postscaler returns it to 0 (R17). -/
def Wtb.postscalerWraps (t : Wtb) : Bool :=
  decide (t.postscaler + 1 = t.common.sweepDivisor)

/-- A strobe at the timebase (R4, R5, R17): FRAME pulses, W increases by one, the frame timer is cleared, a relock frame
ends, and the pending set is applied or the postscaler advances. -/
def Wtb.strobe (t : Wtb) : Wtb :=
  let begun := { t with frameHigh := true, w := t.w + 1, c := 0, relockFrame := false }
  match t.pending with
  | some set => begun.apply set
  | none => { begun with postscaler := if t.postscalerWraps then 0 else t.postscaler + 1 }

/-- Whether a strobe of this timebase issues a sweep trigger (R17). -/
def Wtb.triggersSweep (t : Wtb) : Bool :=
  t.pending.isNone && t.postscalerWraps && decide (1 ≤ t.common.sweepCount)

/-! ### What ends a frame -/

/-- The late limit of an ordinary locked frame before its strobe (R14): the miss run increases, and the third miss
leads to HOLDOVER. -/
def Wtb.lateLimitMiss (t : Wtb) : Wtb :=
  if t.missRun + 1 < 3 then { t with missRun := t.missRun + 1 } else t.toHoldover

/-- An interval that an edge finds good (R10, R11): the fourth moves to LOCKED and makes the frame in progress the relock
frame. -/
def Wtb.goodInterval (t : Wtb) : Wtb :=
  if t.relockRun + 1 < 4 then { t with relockRun := t.relockRun + 1, interval := some 0 }
  else { t with state := .locked, relockFrame := true, missRun := 0, relockRun := 0, interval := none }

/-- An edge in SEEKING or HOLDOVER (R10). An open count above N + N/8 has passed its limit before the edge, which then
opens a new interval. -/
def Wtb.measureEdge (t : Wtb) : Wtb :=
  match t.interval with
  | none => { t with interval := some 0 }
  | some i =>
    if i < t.n - t.n / 8 then { t with relockRun := 0, interval := some 0 }
    else if i ≤ t.lateLimit then t.goodInterval
    else { t with relockRun := 0, interval := some 0 }

/-- A reference edge at the count it finds (R9 to R13): the timebase before any strobe, and whether the edge ends the
frame with a strobe. -/
def Wtb.referenceEdge (t : Wtb) : Wtb × Bool :=
  match t.state with
  | .unset | .free => (t, false)
  | .seeking | .holdover => (t.measureEdge, false)
  | .locked =>
    if t.relockFrame then
      if t.c < t.half then (t, false) else ({ t with missRun := 0 }, true)
    else if t.c < t.half then ({ t with glitch := true }, false)
    else ({ t with missRun := 0 }, true)

/-- The interval count passes N + N/8 with no edge (R10), after the ticks that it lacks. It cannot pass in the frame in
progress when the frame ends before those ticks are over: then nothing happens (log 1). -/
def Wtb.intervalTooLong (t : Wtb) : Wtb :=
  match t.interval with
  | none => t
  | some i =>
    if t.state.measures ∧ t.lateLimit + 1 - i ≤ t.limit - t.c then
      { t.passTicks (t.lateLimit + 1 - i) with relockRun := 0, interval := none }
    else t

/-! ### Wall settings -/

/-- The timebase leaves UNSET with a set of wall settings (R8). -/
def Wtb.start (set : WallSet) (t : Wtb) : Wtb :=
  { t with
    state := match set.timebase.source with | .internal => .free | .reference => .seeking
    c := 0
    prescaleCount := 0
    timebase := some set.timebase
    common := set.common
    missRun := 0
    relockRun := 0
    interval := none
    postscaler := 0 }

/-- An accepted WALL_SET reaches the timebase (R2, R8, R19): it starts an UNSET timebase, else becomes the pending set. -/
def Wtb.accept (set : WallSet) (t : Wtb) : Wtb :=
  if t.state = .unset then t.start set else { t with pending := some set }

end Sys2Proof.Machine
end

