-- ==== Sys2Proof/Machine/Composer.lean ====
section
/-! DEFINITION. The notice composers (chapter 7): the choice at the transmitter (R124, R125), the composition of every
notice and report body (R46 to R51, R126, R127), the start of a message (R31), the meanings of the seven sendings, and
the starts that come before a later event. -/

namespace Sys2Proof.Machine

/-! ### Choice (R124, R125) -/

/-- What the transmitter of a port sends next. -/
inductive Choice where
  | commit (c : Cue)
  | retiredAbort (a : RetiredAbort)
  | liveAbort (c : Cue) (reason : AbortReason)
  | defer (c : Cue)
  | prepare (c : Cue)
  | step
  | editResult (slot : EditSlot) (outcome : EditOutcome)
  | report (subject index : Byte)
  deriving DecidableEq, Repr

/-- The earliest live cue in fire order that owes a notice on a port (R125). -/
def earliestOwing (p : Port) (notice : CueNotice) (live : List Cue) : Option Cue :=
  live.find? fun c => decide (c.notices[p].owed = some notice)

/-- The ABORT reason owed for a live cue on a port, if any. -/
def Cue.owedAbort (p : Port) (c : Cue) : Option AbortReason :=
  match c.notices[p].owed with
  | some (.abort r) => some r
  | some .prepare | some .defer | some .commit | none => none

/-- The earliest live cue that owes an ABORT on a port, with its reason (R125). -/
def earliestAbort (p : Port) (live : List Cue) : Option Choice :=
  live.findSome? fun c => (c.owedAbort p).map (.liveAbort c)

/-- The earlier completed DONE slot of a port with its outcome (R123, R125). -/
def earliestResult (slots : List EditSlot) : Option Choice :=
  slots.findSome? fun x =>
    match x.status with
    | .done outcome => some (.editResult x outcome)
    | .queued | .active _ => none

/-- The notice that the composer of a port chooses (R124, R125); none when the port owes nothing. -/
def State.choose (p : Port) (s : State) : Option Choice :=
  ((earliestOwing p .commit s.sched.live).map .commit)
    <|> ((s.sched.aborts[p].head?).map .retiredAbort)
    <|> (earliestAbort p s.sched.live)
    <|> ((earliestOwing p .defer s.sched.live).map .defer)
    <|> ((earliestOwing p .prepare s.sched.live).map .prepare)
    <|> (if s.composers[p].stepOwed then some .step else none)
    <|> (earliestResult s.eu.slots[p])
    <|> (s.composers[p].report.map fun r => .report r.1 r.2)

/-- The transmitter of a port may start a message (R31): IDLE with CTS asserted. -/
def State.canSend (p : Port) (s : State) : Bool :=
  decide (s.links[p].tx = .idle) && s.links[p].cts

/-- What the transmitter of a port sends now, none when it sends nothing (R31, R124). -/
def State.chosen (p : Port) (s : State) : Option Choice :=
  if s.canSend p then s.choose p else none

/-- A message handed to the transmitter, whose first character starts at once with mark bit 1 (R30, R31). -/
def State.transmit (p : Port) (kind : Byte) (rest : List Byte) (s : State) : State :=
  s.modifyLink p fun l => { l with tx := .sending (outgoing true kind) rest }

/-- The sending of the cue notice owed for a cue on a port: no longer owed, sent-history set (R117, R124). -/
def State.cueNoticeSent (p : Port) (id : Byte) (s : State) : State :=
  { s with sched := s.sched.updateCue id fun c => { c with notices := modifyAt c.notices p PortNotice.sent } }

/-! ### Cue notices (R50, R52, R126) -/

/-- The characters of a PREPARE after its kind (R52, R126). -/
def prepareChars (p : Port) (c : Cue) : List Byte :=
  c.id :: chars4 c.fire ++ chars2 (c.tokenOf p).toNat ++ [char1 c.transition.code, char1 c.lo, char1 c.li]

/-- The characters of a DEFER after its kind (R52, R126). -/
def deferChars (c : Cue) : List Byte :=
  c.id :: chars4 c.fire ++ [char1 c.deferralsUsed]

/-- The characters of a COMMIT after its kind (R52, R126). -/
def commitChars (c : Cue) : List Byte :=
  c.id :: chars4 c.fire

/-- The characters of an ABORT after its kind (R52, R126). -/
def abortChars (id : Byte) (r : AbortReason) : List Byte :=
  [id, char1 r.code]

/-- The oldest entry of a port's retired ABORT list is sent (R120). -/
def State.retiredAbortSent (p : Port) (s : State) : State :=
  { s with sched := { s.sched with aborts := modifyAt s.sched.aborts p List.tail } }

/-! ### EDIT_RESULT and STEP (R51, R127) -/

/-- The characters of an EDIT_RESULT after its kind (R51, R52). -/
def editResultChars (slot : EditSlot) (outcome : EditOutcome) : List Byte :=
  [Message.tag slot.edit, char1 outcome.code, Message.resultCueId slot.edit]

/-- The characters of a STEP after its kind (R51, R52). -/
def stepChars (e : EchoWatch) : List Byte :=
  char1 e.status.code :: charsSigned e.lastOffset

/-! ### REPORT (R46 to R49) -/

/-- The subject of a QUERY when it is valid (R46). -/
inductive Subject where
  | cue (id : Byte)
  | port (q : Port)
  | wall
  | zone (z : ZoneId)
  | sensor (i : SensorId)
  deriving DecidableEq, Repr

/-- The subject of a subject code and an index; none for a QUERY that is not valid (R46). -/
def subjectOf (subject index : Byte) : Option Subject :=
  match subject.toNat with
  | 0 => some (.cue index)
  | 1 => (portOf index.toNat).map .port
  | 2 => some .wall
  | 3 => (zoneOf index.toNat).map .zone
  | 4 => (zoneOf index.toNat).map .sensor
  | _ => none

/-- The reason character of participant `k` (from 0); 0 beyond the list (R47). -/
def reasonAt (ps : List Participant) (k : Nat) : Byte :=
  (readinessAt ps k).reasonByte

/-- The CUE body in the live form (R47, R52). -/
def liveBody (c : Cue) : List Byte :=
  char1 c.state.code :: chars4 c.fire
    ++ [char1 c.deferralsUsed, char1 c.participants.length, PortMask.toByte c.armed,
      packReadiness c.participants 0, packReadiness c.participants 4]
    ++ (List.range 6).map (reasonAt c.participants)

/-- The CUE body in the retired form (R47, R52). -/
def retiredBody (e : OutcomeEntry) : List Byte :=
  char1 retiredCode :: chars4 e.fire
    ++ [char1 e.outcome.code, char1 e.deferralsUsed, PortMask.toByte e.armed, PortMask.toByte e.unsent,
      char1 e.continuation.code]
    ++ chars4 e.continuation.nextFire ++ [0, 0]

/-- The CUE body in the unknown form (R47, R52). -/
def unknownBody : List Byte :=
  char1 unknownCode :: List.replicate 15 0

/-- The CUE body by the lookup at composition (R47, R69). -/
def cueBody (id : Byte) (s : Schedule) : List Byte :=
  match findCue id s.live with
  | some c => liveBody c
  | none =>
    match findOutcome id s.outcomes with
    | some e => retiredBody e
    | none => unknownBody

/-- The characters Id low and Id high of a PORT report (R48); free values for an empty range (log 13). -/
def idRangeChars (k : Nat) (r : Permission) : List Byte :=
  match r.idRange with
  | some (low, high) => [low, high]
  | none => [Config.emptyIdLow k, Config.emptyIdHigh k]

/-- The PORT body for port `q` (R48, R52). -/
def portBody (q : Port) (s : State) : List Byte :=
  [s.links[q].flags.toByte, char1 s.watch[q].status.code]
    ++ charsSigned s.watch[q].lastOffset
    ++ [char1 s.eu.slots[q].length, char1 s.eu.lock.toNat]
    ++ idRangeChars s.freeCount s.eu.permits[q]
    ++ [PortMask.toByte s.eu.permits[q].direct, s.eu.permits[q].rights.toByte, char1 s.watch[q].settings.mode.code]
    ++ chars2 s.watch[q].settings.tolerance ++ [0, 0, 0]

/-- The source as reported: INTERNAL in UNSET (R16). -/
def Wtb.reportedSource (t : Wtb) : Nat :=
  (t.timebase.map (·.source.code)).getD 0

/-- The prescale code as reported: 0 in UNSET (R16). -/
def Wtb.reportedPrescale (t : Wtb) : Nat :=
  (t.timebase.map (·.prescale.val)).getD 0

/-- The WALL body (R49, R52). -/
def wallBody (s : State) : List Byte :=
  chars4 s.wtb.w ++ [char1 s.wtb.state.code, char1 s.wtb.reportedSource] ++ chars2 s.wtb.n
    ++ [char1 s.wtb.reportedPrescale, char1 s.ambient.overrun.toNat, char1 s.wtb.glitch.toNat,
      char1 s.sched.live.length, char1 s.wtb.common.sweepCount, char1 s.wtb.common.sweepDivisor]
    ++ chars2 s.wtb.common.pwmPeriod

/-- The owner as reported: 255 for none (R163). -/
def ownerChar (o : Option Port) : Byte :=
  char1 ((o.map (·.val)).getD 255)

/-- The sensor as reported: 8 for fixed (R163). -/
def sensorChar (o : Option SensorId) : Byte :=
  char1 ((o.map (·.val)).getD 8)

/-- The ZONE body (R49, R52, R163). -/
def zoneBody (z : Zone) : List Byte :=
  [ownerChar z.config.owner, sensorChar z.config.sensor] ++ chars2 z.ba ++ chars2 z.g ++ chars2 z.d
    ++ chars2 z.active ++ chars2 z.config.dmin ++ chars2 z.config.dmax ++ [char1 z.config.trim, 0]

/-- The SENSOR body (R49, R52). -/
def sensorBody (x : Sensor) : List Byte :=
  [char1 x.state.code] ++ chars2 x.last ++ chars2 x.f ++ [char1 x.railRun, char1 x.clearRun]
    ++ List.replicate 9 0

/-- The body of a REPORT (R46 to R49): sixteen zeros for a QUERY that is not valid. -/
def State.reportBody (subject : Option Subject) (s : State) : List Byte :=
  match subject with
  | none => List.replicate 16 0
  | some (.cue id) => cueBody id s.sched
  | some (.port q) => portBody q s
  | some .wall => wallBody s
  | some (.zone z) => zoneBody s.dimmer.zones[z]
  | some (.sensor i) => sensorBody s.ambient.sensors[i]

/-- What the composition of a REPORT does to other blocks (R29, R46, R127): a PORT report clears the sticky flags of its
port, a WALL report GLITCH and sweep overrun. A PORT report of an empty id range uses a fresh free value. -/
def State.reportEffects (subject : Option Subject) (s : State) : State :=
  match subject with
  | some (.port q) =>
    { s.modifyLink q (fun l => { l with flags := .clear }) with
      freeCount := if s.eu.permits[q].idRange.isNone then s.freeCount + 1 else s.freeCount }
  | some .wall =>
    { s with wtb := { s.wtb with glitch := false }, ambient := { s.ambient with overrun := false } }
  | some (.cue _) | some (.zone _) | some (.sensor _) | none => s

/-- The characters of a REPORT after its kind (R46, R52): subject code 255 for a QUERY that is not valid. -/
def State.reportChars (subject index : Byte) (s : State) : List Byte :=
  (if (subjectOf subject index).isSome then subject else 255) :: index :: s.reportBody (subjectOf subject index)

/-! ### The start of a message (R31) -/

/-- The chosen notice is composed and sent on a port: choice, composition and sending are one event (R124). A cue notice is no
longer owed and sets the sent-history (R117); a retired ABORT leaves its list (R120); a STEP clears its flag (R121); an
EDIT_RESULT empties its slot, a waiting edit moves in, and the arbiter may take it at once (R73, R123); a REPORT is no longer
owed and clears the flags that it carries (R122, R127). -/
def State.send (p : Port) (choice : Choice) (s : State) : State :=
  match choice with
  | .commit c => (s.cueNoticeSent p c.id).transmit p 66 (commitChars c)
  | .retiredAbort a => (s.retiredAbortSent p).transmit p 67 (abortChars a.id a.reason)
  | .liveAbort c r => (s.cueNoticeSent p c.id).transmit p 67 (abortChars c.id r)
  | .defer c => (s.cueNoticeSent p c.id).transmit p 65 (deferChars c)
  | .prepare c => (s.cueNoticeSent p c.id).transmit p 64 (prepareChars p c)
  | .step =>
    { s with composers := modifyAt s.composers p fun c => { c with stepOwed := false } }.transmit p 70
      (stepChars s.watch[p])
  | .editResult slot outcome =>
    (((s.transmit p 68 (editResultChars slot outcome)).modifySlots p dropFirstDone).refill p).arbitrate
  | .report subject index =>
    { s.reportEffects (subjectOf subject index) with
      composers := modifyAt s.composers p fun c => { c with report := none } }.transmit p 69
      (s.reportChars subject index)

/-- The start that is due on a port: an IDLE transmitter with CTS asserted sends what its composer chooses (R31). -/
def State.startOn (p : Port) (s : State) : State :=
  match s.chosen p with
  | some choice => s.send p choice
  | none => s

/-- Every start that is due, port by port (R31). -/
def State.startDue (s : State) : State :=
  allPorts.foldl (fun t p => t.startOn p) s

/-- The state that an event finds. A transmitter starts a message at the moment it can (R31), so the starts that are due come
before an event; before one that falls together with the event before it they do not (R90, R112, R114, R138; log 10). -/
def State.atMoment (m : Moment) (s : State) : State :=
  match m with
  | .together => s
  | .later => s.startDue

/-- An event other than a sending. -/
def State.event (m : Moment) (f : State → State) (s : State) : Host.Outcome State Fault Refusal :=
  .next (f (s.atMoment m))

/-! ### The sendings -/

/-- PREPARE (R126): sent when it is what the composer chooses. -/
def execPrepare (p : Port) (s : State) : Host.Outcome State Fault Refusal :=
  match s.chosen p with
  | some (.prepare c) => .next (s.send p (.prepare c))
  | _ => .next s

/-- DEFER (R126). -/
def execDefer (p : Port) (s : State) : Host.Outcome State Fault Refusal :=
  match s.chosen p with
  | some (.defer c) => .next (s.send p (.defer c))
  | _ => .next s

/-- COMMIT (R126). -/
def execCommit (p : Port) (s : State) : Host.Outcome State Fault Refusal :=
  match s.chosen p with
  | some (.commit c) => .next (s.send p (.commit c))
  | _ => .next s

/-- ABORT (R126): the oldest retired ABORT, or else a live one. -/
def execAbort (p : Port) (s : State) : Host.Outcome State Fault Refusal :=
  match s.chosen p with
  | some (.retiredAbort a) => .next (s.send p (.retiredAbort a))
  | some (.liveAbort c r) => .next (s.send p (.liveAbort c r))
  | _ => .next s

/-- EDIT_RESULT (R73, R123): of the earlier DONE slot. -/
def execEditResult (p : Port) (s : State) : Host.Outcome State Fault Refusal :=
  match s.chosen p with
  | some (.editResult slot outcome) => .next (s.send p (.editResult slot outcome))
  | _ => .next s

/-- REPORT (R122, R127): composed from the state at composition. -/
def execReport (p : Port) (s : State) : Host.Outcome State Fault Refusal :=
  match s.chosen p with
  | some (.report subject index) => .next (s.send p (.report subject index))
  | _ => .next s

/-- STEP (R121, R127): composed from status and last offset. -/
def execStep (p : Port) (s : State) : Host.Outcome State Fault Refusal :=
  match s.chosen p with
  | some .step => .next (s.send p .step)
  | _ => .next s

end Sys2Proof.Machine
end

