-- ==== Sys2Proof/Machine/Arming.lean ====
section
/-! DEFINITION. The arming unit (chapter 6): the entry test, the lead, the deadline and its policies, the take, retirement
with repetition, readiness answers, the drop and the port reset, all on the schedule. -/

namespace Sys2Proof.Machine

/-- Hands a duty to the composers of the ports for which `dest` holds (R117, R118). -/
def Cue.offerTo (duty : CueNotice) (dest : Port → Bool) (c : Cue) : Cue :=
  { c with notices := mapAt (fun p n => if dest p then n.offer duty else n) c.notices }

/-- Every participant's readiness changed. -/
def Cue.mapReadiness (f : Readiness → Readiness) (c : Cue) : Cue :=
  { c with participants := c.participants.map fun x => { x with readiness := f x.readiness } }

/-- The readiness entry of one port changed (R97). -/
def Cue.setReadiness (p : Port) (r : Readiness) (c : Cue) : Cue :=
  { c with participants := c.participants.map fun x => if x.port == p then { x with readiness := r } else x }

/-- To ASKING: every entry becomes ASKED and a PREPARE is owed on every participant's port (R93, R94). -/
def Cue.ask (c : Cue) : Cue :=
  ({ c with state := .asking }.mapReadiness fun _ => .asked).offerTo .prepare c.hasPort

/-- The entry test (R93): WAITING when fire minus W is above the lead, else ASKING. -/
def Cue.enter (w : Frame) (c : Cue) : Cue :=
  if c.ahead w > c.lead then { c with state := .waiting } else c.ask

/-- The next repetition of a taken cue before its entry test (R68): deferrals used 0, every entry NOT_ASKED, armed mask
empty, nothing owed and both marks clear on every port (R116). -/
def Cue.nextRepetition (c : Cue) (fire : Frame) : Cue :=
  { c.mapReadiness (fun _ => .notAsked) with
    fire := fire
    deferralsUsed := 0
    repeatCount := nextCount c.repeatCount
    armed := 0
    state := .waiting
    notices := Vector.replicate 6 .blank }

/-- The fire frame of the next repetition (R68). -/
def Cue.nextFire (c : Cue) (interval : Nat) : Frame :=
  c.fire + BitVec.ofNat 32 interval

/-- What a retirement does about repetition (R68, R110), against the table without the retiring record. -/
def Cue.continuation (live : List Cue) (taken : Bool) (c : Cue) : Continuation :=
  if taken then
    match c.repeatInterval with
    | none => .none
    | some i =>
      if c.repeatCount = 0 then .endedCount
      else if clashes live c.hasPort (c.nextFire i) then .endedClash
      else .rescheduled (c.nextFire i)
  else .none

/-- The armed ports whose COMMIT is owed and unsent (R108, R109). -/
def Cue.unsentMask (c : Cue) : PortMask :=
  maskOf fun p => inMask c.armed p && decide (c.notices[p].owed = some .commit)

/-- Whether an outcome is a take (R67). -/
def CueOutcome.isTake : CueOutcome → Bool
  | .taken => true
  | .takenPartial => true
  | .notReady => false
  | .dropped => false
  | .deferClash => false

/-- The retired ABORT lists after the settling of a cue on every port (R119): `duty p` is the ABORT duty for port p. -/
def settleAborts (duty : Port → Option AbortReason) (c : Cue) (aborts : Vector (List RetiredAbort) 6) :
    Vector (List RetiredAbort) 6 :=
  mapAt (fun p l =>
    match c.notices[p].settle (duty p) with
    | some r => appendCapped l ⟨c.id, r⟩
    | none => l) aborts

/-- The outcome entry of a retirement (R67). -/
def Cue.outcomeEntry (c : Cue) (outcome : CueOutcome) (k : Continuation) : OutcomeEntry :=
  ⟨c.id, c.fire, outcome, c.deferralsUsed, c.armed, c.unsentMask, k⟩

/-- The table after a retirement's repetition: the new record in the freed place, with its entry test (R64, R110). -/
def repeatInto (w : Frame) (c : Cue) (k : Continuation) (live : List Cue) : List Cue :=
  match k with
  | .rescheduled f => insertCue w ((c.nextRepetition f).enter w) live
  | .none => live
  | .endedCount => live
  | .endedClash => live

/-- Retirement of a cue (R108): notices settled on every port, the record removed, the outcome entry appended, and
repetition decided for a taken cue. -/
def Schedule.retire (w : Frame) (c : Cue) (outcome : CueOutcome) (duty : Port → Option AbortReason) (s : Schedule) :
    Schedule :=
  let rest := removeCue c.id s.live
  let k := c.continuation rest outcome.isTake
  { s with
    live := repeatInto w c k rest
    outcomes := appendCapped s.outcomes (c.outcomeEntry outcome k)
    aborts := settleAborts duty c s.aborts }

/-- An ABORT duty for every participant (R103, R101, R111). -/
def Cue.abortAll (c : Cue) (r : AbortReason) (p : Port) : Option AbortReason :=
  if c.hasPort p then some r else none

/-- TAKEN when the armed mask equals the participants, TAKEN_PARTIAL when it is smaller (R67, R106). -/
def Cue.takeOutcome (c : Cue) : CueOutcome :=
  if c.armed = c.portMask then .taken else .takenPartial

/-! ### The strobe at the arming unit -/

/-- A participant is good at a deadline (R99): READY, and its port IN_STEP or UNUSED. -/
def Participant.good (status : Vector StepStatus 6) (x : Participant) : Bool :=
  decide (x.readiness = .ready) && (decide (status[x.port] = .inStep) || decide (status[x.port] = .unused))

/-- Whether a port is a good participant of the cue. -/
def Cue.goodPort (status : Vector StepStatus 6) (c : Cue) (p : Port) : Bool :=
  c.participants.any fun x => x.port == p && x.good status

/-- ARMED with a mask: a COMMIT to its ports, and an ABORT with reason EXCLUDED to the other participants (R99, R102). -/
def Cue.arm (mask : PortMask) (c : Cue) : Cue :=
  (({ c with state := .armed, armed := mask }.offerTo .commit (inMask mask)).offerTo (.abort .excluded)
    fun p => c.hasPort p && !inMask mask p)

/-- A READY entry stays READY at a deferral, every other entry becomes ASKED (R101). -/
def Readiness.afterDeferral : Readiness → Readiness
  | .ready => .ready
  | .notAsked => .asked
  | .asked => .asked
  | .refused _ => .asked

/-- The fire frame that a deferral would give (R101). -/
def Cue.deferredFire (c : Cue) : Frame :=
  c.fire + BitVec.ofNat 32 c.deferStep

/-- The record after a deferral (R101). -/
def Cue.deferred (c : Cue) : Cue :=
  ({ c with fire := c.deferredFire, deferralsUsed := c.deferralsUsed + 1 }.mapReadiness
    Readiness.afterDeferral).offerTo .defer c.hasPort

/-- A deferral, or retirement DEFER_CLASH when the new fire frame clashes with another live cue (R101). -/
def Schedule.deferCue (w : Frame) (c : Cue) (s : Schedule) : Schedule :=
  if clashes (removeCue c.id s.live) c.hasPort c.deferredFire then
    s.retire w c .deferClash (c.abortAll .deferClash)
  else s.putCue w c.deferred

/-- Retirement NOT_READY (R103). -/
def Schedule.failCue (w : Frame) (c : Cue) (s : Schedule) : Schedule :=
  s.retire w c .notReady (c.abortAll .notReady)

/-- The deadline of an ASKING cue (R99, R100). -/
def Schedule.deadline (w : Frame) (status : Vector StepStatus 6) (c : Cue) (s : Schedule) : Schedule :=
  if c.participants.all (·.good status) then s.putCue w (c.arm c.portMask)
  else
    match c.policy with
    | .defer => if c.deferralsUsed < c.maxDeferrals then s.deferCue w c else s.failCue w c
    | .partialTake =>
      if c.participants.any (·.good status) then s.putCue w (c.arm (maskOf (c.goodPort status)))
      else s.failCue w c
    | .cancel => s.failCue w c

/-- Asserts the take lines of a set of ports for the frame that the strobe begins (R105, R106). -/
def Schedule.assertTake (mask : PortMask) (s : Schedule) : Schedule :=
  { s with take := mapAt (fun p t => t || inMask mask p) s.take }

/-- The take of an ARMED cue (R106): a CUT cue retires, a DIM cue becomes TAKEN. -/
def Schedule.takeCue (w : Frame) (c : Cue) (s : Schedule) : Schedule :=
  match c.transition with
  | .cut => (s.assertTake c.armed).retire w c c.takeOutcome fun _ => none
  | .dim => (s.assertTake c.armed).putCue w { c with state := .taken }

/-- The one transition that a cue's state and its new fire minus W call for at a strobe (R95). -/
def Schedule.examine (w : Frame) (status : Vector StepStatus 6) (c : Cue) (s : Schedule) : Schedule :=
  match c.state with
  | .waiting => if c.ahead w = c.lead then s.putCue w c.ask else s
  | .asking => if c.ahead w = c.margin then s.deadline w status c else s
  | .armed => if c.ahead w = 0 then s.takeCue w c else s
  | .taken => if c.ahead w = -(c.li : Int) then s.retire w c c.takeOutcome fun _ => none else s

/-- The examination of the cue that has the id, as the cues examined before it left it; none if it is not live. -/
def Schedule.examineId (w : Frame) (status : Vector StepStatus 6) (s : Schedule) (id : Byte) : Schedule :=
  match findCue id s.live with
  | some c => s.examine w status c
  | none => s

/-- The examination of cues one after the other, each with its number in fire order: `status k` is what the examination of
number k reads of the phase watch (R95, R99). -/
def Schedule.examineAll (w : Frame) (status : Nat → Vector StepStatus 6) (cues : List (Cue × Nat)) (s : Schedule) :
    Schedule :=
  cues.foldl (fun t x => t.examineId w (status x.2) x.1.id) s

/-- The strobe at the arming unit (R95, R105): every take line falls unless a take asserts it, and every cue is examined
once, in the fire order held before the strobe. -/
def Schedule.strobe (w : Frame) (status : Nat → Vector StepStatus 6) (s : Schedule) : Schedule :=
  { s with take := Vector.replicate 6 false }.examineAll w status s.live.zipIdx

/-! ### Readiness answers -/

/-- Whether an answer for the id on the port is taken: the live cue is ASKING and the port a participant (R96). -/
def Schedule.takesAnswer (id : Byte) (p : Port) (s : Schedule) : Bool :=
  match findCue id s.live with
  | some c => decide (c.state = .asking) && c.hasPort p
  | none => false

/-- Whether a discarded answer sets STRAY (R98): all but the answer of a participant of an ARMED cue. -/
def Schedule.straysAnswer (id : Byte) (p : Port) (s : Schedule) : Bool :=
  match findCue id s.live with
  | some c => !(decide (c.state = .armed) && c.hasPort p)
  | none => true

/-- The readiness that a READY with a token gives (R96): READY on the participant's token, else REFUSED with reason 0. -/
def Cue.readyEntry (c : Cue) (p : Port) (token : Token) : Readiness :=
  if c.tokenOf p = token then .ready else .refused 0

/-! ### Drop -/

/-- The ABORT duty of a drop (R111): none for a WAITING cue, DROPPED to every participant otherwise. -/
def Cue.dropDuty (c : Cue) (p : Port) : Option AbortReason :=
  match c.state with
  | .waiting => none
  | .asking | .armed | .taken => c.abortAll .dropped p

/-- Whether the fade of an ARMED cue has begun (R82). -/
def Cue.fadeBegun (w : Frame) (c : Cue) : Bool :=
  match c.transition with
  | .dim => decide (c.ahead w < c.lo)
  | .cut => decide (c.ahead w ≤ 0)

/-! ### Port reset -/

/-- What a port reset of `p` does to a cue, after the composer of `p` has cleared what it owed (R113). -/
def Cue.portReset (p : Port) (c : Cue) : Cue :=
  if c.hasPort p then
    match c.state with
    | .waiting => c
    | .asking => (c.setReadiness p .asked).offerTo .prepare (· == p)
    | .armed | .taken =>
      if inMask c.armed p then c.offerTo .commit (· == p) else c.offerTo (.abort .excluded) (· == p)
  else c

/-- The composer of `p` discards the notice it owes for a cue and keeps the sent-history (R128). -/
def Cue.clearOwed (p : Port) (c : Cue) : Cue :=
  { c with notices := modifyAt c.notices p fun n => { n with owed := none } }

/-- The schedule at a port reset of `p` (R113, R128): the composer clears first, then the arming unit acts. -/
def Schedule.portReset (p : Port) (s : Schedule) : Schedule :=
  { s with
    live := s.live.map fun c => (c.clearOwed p).portReset p
    aborts := modifyAt s.aborts p fun _ => [] }

end Sys2Proof.Machine
end

