-- ==== Sys2Proof/Machine/Sweep.lean ====
section
/-! DEFINITION. The ambient sweep on its own state (chapter 9): triggers, conversions, sensor states and the filter. -/

namespace Sys2Proof.Machine

/-- The largest conversion result (R140). -/
def maxSample : Nat := 1023

/-- A rail sample (R140). -/
def isRail (a : Nat) : Bool :=
  decide (a = 0) || decide (a = maxSample)

/-- The filter (R147): the step is the difference to A × 64 divided by 2^shift, rounded toward minus infinity. -/
def filterStep (shift f a : Nat) : Nat :=
  ((f : Int) + (((a * 64 : Nat) : Int) - f) / (2 ^ shift : Nat)).toNat

/-- Consecutive samples that change a sensor's state (R145, R146). -/
def sensorRun : Nat := 8

/-- A conversion end with sample `a` (R144 to R146). -/
def Sensor.convert (shift a : Nat) (s : Sensor) : Sensor :=
  let s := { s with last := a }
  match s.state with
  | .unseeded =>
    if isRail a then { s with railRun := min (s.railRun + 1) sensorRun }
    else { s with f := a * 64, state := .good, railRun := 0 }
  | .good =>
    if isRail a then
      if s.railRun < 7 then { s with railRun := s.railRun + 1 }
      else { s with state := .faulted, railRun := 0, clearRun := 0 }
    else { s with f := filterStep shift s.f a, railRun := 0 }
  | .faulted =>
    if isRail a then { s with clearRun := 0 }
    else if s.clearRun < 7 then { s with clearRun := s.clearRun + 1 }
    else { s with state := .good, f := filterStep shift s.f a, railRun := 0, clearRun := 0 }

/-- A sweep trigger (R142, R143): a sweep starts, or the trigger is ignored and the overrun flag set. -/
def Ambient.trigger (a : Ambient) : Ambient :=
  match a.sweep with
  | .idle => if 1 ≤ a.sweepCount then { a with sweep := .sweeping a.sweepCount 0 } else a
  | .sweeping _ _ => { a with overrun := true }

/-- The sweep after the conversion of a sensor (R142): the next sensor, or IDLE after S(k−1). -/
def nextConversion (k : Nat) (i : SensorId) : SweepState :=
  if h : i.val + 1 < k ∧ i.val + 1 < 8 then .sweeping k ⟨i.val + 1, h.2⟩ else .idle

/-- The end of the conversion in progress with a result (R140, R142); an input beyond a supply gives the end value. -/
def Ambient.conversionEnd (sample : Nat) (a : Ambient) : Ambient :=
  match a.sweep with
  | .idle => a
  | .sweeping k i =>
    { a with
      sweep := nextConversion k i
      sensors := modifyAt a.sensors i (Sensor.convert a.filterShift (min sample maxSample)) }

/-- The sweep count and filter shift handed over by the timebase (R141). -/
def Ambient.handover (common : WallCommon) (a : Ambient) : Ambient :=
  { a with sweepCount := common.sweepCount, filterShift := common.filterShift }

end Sys2Proof.Machine
end

