-- ==== Sys2Proof/Machine/Edits.lean ====
section
/-! DEFINITION. The eight edits (R76 to R88): the record each carries, the checks in their order, and what an ACCEPTED
edit changes; the meanings of their completions and of the save's phases. -/

namespace Sys2Proof.Machine

/-- Whether a cue id lies in a record's id range (R77). -/
def Permission.coversId (r : Permission) (id : Byte) : Bool :=
  match r.idRange with
  | none => false
  | some (low, high) => decide (low.toNat ≤ id.toNat) && decide (id.toNat ≤ high.toNat)

/-! ### CUE_PUT -/

/-- The largest repeat interval, and the bound of fire minus W (R39, R80). -/
def horizon : Nat := 2 ^ 30

/-- A participant entry as stored; an entry above port 5 gives none. -/
def participantOf (e : Nat × Token) : Option Participant :=
  (portOf e.1).map fun p => ⟨p, e.2, .notAsked⟩

/-- The record that a CUE_PUT with a transition and a policy stores (R54, R57, R58, R61). -/
def Message.cueOf (m : Message) (t : Transition) (policy : Policy) : Cue :=
  let lo := storedFade (m.num 9)
  let timing := storedLeadMargin (m.num2 11) (raisedMargin t lo (m.num2 13))
  { id := m.char 3
    fire := BitVec.ofNat 32 (m.num4 4)
    transition := t
    lo := lo
    li := storedFade (m.num 10)
    lead := timing.1
    margin := timing.2
    policy := policy
    deferStep := storedDeferStep (m.num2 16)
    maxDeferrals := storedMaxDeferrals (m.num 18)
    deferralsUsed := 0
    repeatInterval := storedInterval (m.num4 19)
    repeatCount := m.num2 23
    participants := m.entries.filterMap participantOf
    armed := 0
    state := .waiting
    notices := Vector.replicate 6 .blank }

/-- The bound that a repeat interval must exceed (R58, R80). -/
def Cue.intervalFloor (c : Cue) : Nat :=
  match c.transition with
  | .dim => c.li + c.margin
  | .cut => c.margin

/-- Whether the repeat interval of a put is admitted: absent, or above its bound and at most 2^30 (R80). -/
def Cue.intervalOk (c : Cue) : Bool :=
  match c.repeatInterval with
  | none => true
  | some i => decide (c.intervalFloor < i) && decide (i ≤ horizon)

/-- Whether the participant entries of a put are free of the faults of R80: n from 1 to 6, every port at most 5, no port
twice. -/
def Message.entriesOk (m : Message) : Bool :=
  decide (1 ≤ m.num 25) && decide (m.num 25 ≤ 6) && m.entries.all (fun e => decide (e.1 ≤ 5))
    && decide ((m.entries.map (·.1)).Nodup)

/-- The record of a CUE_PUT that passes the BAD_FIELD check (R80), none when a fault is found. -/
def Message.putRecord (w : Frame) (m : Message) : Option Cue :=
  match transitionOf (m.num 8), policyOf (m.num 15) with
  | some t, some policy =>
    let c := m.cueOf t policy
    if m.entriesOk && decide (0 ≤ c.ahead w) && decide (c.ahead w < horizon) && c.intervalOk then some c else none
  | _, _ => none

/-- Whether the requester may put this cue (R79, step 2): the id in its range, every entry with a port from 0 to 5 in its
direct mask. -/
def Permission.allowsPut (r : Permission) (m : Message) : Bool :=
  r.coversId (m.char 3) && m.entries.all fun e =>
    match portOf e.1 with
    | none => true
    | some p => inMask r.direct p

/-- Whether the live cue of an id has been asked (R79, step 4). -/
def cueInFlight (id : Byte) (live : List Cue) : Bool :=
  match findCue id live with
  | none => false
  | some c => decide (c.state ≠ .waiting)

/-- The outcome of a CUE_PUT (R79), its seven checks in order. -/
def cuePutOutcome (p : Port) (m : Message) (s : State) : EditOutcome :=
  if s.wtb.state = .unset then .noTimebase
  else if !s.eu.permits[p].allowsPut m then .isProtected
  else
    match Message.putRecord s.wtb.w m with
    | none => .badField
    | some c =>
      if cueInFlight c.id s.sched.live then .inFlight
      else if ¬ (c.margin : Int) < c.ahead s.wtb.w then .tooSoon
      else if clashes (removeCue c.id s.sched.live) c.hasPort c.fire then .clash
      else if (findCue c.id s.sched.live).isNone && decide (tablePlaces ≤ s.sched.live.length) then .tableFull
      else .accepted

/-- An ACCEPTED CUE_PUT (R61, R62, R93): the record stored or replaced, with its entry test. -/
def cuePutApply (_ : Port) (m : Message) (s : State) : State :=
  match Message.putRecord s.wtb.w m with
  | none => s
  | some c => { s with sched := s.sched.putCue s.wtb.w (c.enter s.wtb.w) }

/-- CUE_PUT (R79). -/
def execCuePut (s : State) (m : Moment := .later) : Host.Outcome State Fault Refusal :=
  s.event m (State.complete .cuePut cuePutOutcome cuePutApply)

/-! ### CUE_DROP -/

/-- The outcome of a CUE_DROP (R82), its four checks in order. -/
def cueDropOutcome (p : Port) (m : Message) (s : State) : EditOutcome :=
  if s.wtb.state = .unset then .noTimebase
  else if !s.eu.permits[p].coversId (m.char 3) then .isProtected
  else
    match findCue (m.char 3) s.sched.live with
    | none => .unknownCue
    | some c =>
      if c.state = .taken ∨ (c.state = .armed ∧ c.fadeBegun s.wtb.w = true) then .tooLate else .accepted

/-- An ACCEPTED CUE_DROP (R111): the live cue retires with outcome DROPPED. -/
def cueDropApply (_ : Port) (m : Message) (s : State) : State :=
  match findCue (m.char 3) s.sched.live with
  | none => s
  | some c => { s with sched := s.sched.retire s.wtb.w c .dropped c.dropDuty }

/-- CUE_DROP (R82). -/
def execCueDrop (s : State) (m : Moment := .later) : Host.Outcome State Fault Refusal :=
  s.event m (State.complete .cueDrop cueDropOutcome cueDropApply)

/-! ### ZONE_SET -/

/-- The owner of a zone from its character: none for 255 (R41). -/
def ownerOk (n : Nat) : Bool :=
  decide (n ≤ 5) || decide (n = 255)

/-- The per-mille clamp of R41. -/
def permille (n : Nat) : Nat := min n 1000

/-- The configuration that a ZONE_SET stores (R41, R151): Dmin is held to the stored Dmax. -/
def Message.zoneConfig (m : Message) : ZoneConfig where
  owner := portOf (m.num 4)
  sensor := if h : m.num 5 < 8 then some ⟨m.num 5, h⟩ else none
  fixedAmbient := min (m.num2 6) 1023
  curve := Vector.ofFn fun i : Fin 9 => permille (m.num2 (15 + 2 * i.val))
  trim := clampNat 32 96 (m.num 8)
  dmin := min (m.num2 9) (permille (m.num2 11))
  dmax := permille (m.num2 11)
  slew := clampNat 1 1000 (m.num2 13)

/-- The outcome of a ZONE_SET (R83). -/
def zoneSetOutcome (p : Port) (m : Message) (s : State) : EditOutcome :=
  if !s.eu.permits[p].rights.zone then .isProtected
  else if 7 < m.num 3 ∨ ownerOk (m.num 4) = false ∨ 8 < m.num 5 then .badField
  else .accepted

/-- An ACCEPTED ZONE_SET (R151): the zone's configuration replaced and its applied base clamped. -/
def zoneSetApply (_ : Port) (m : Message) (s : State) : State :=
  match zoneOf (m.num 3) with
  | none => s
  | some z =>
    { s with dimmer := { s.dimmer with zones := modifyAt s.dimmer.zones z (Zone.configure m.zoneConfig) } }

/-- ZONE_SET (R83). -/
def execZoneSet (s : State) (m : Moment := .later) : Host.Outcome State Fault Refusal :=
  s.event m (State.complete .zoneSet zoneSetOutcome zoneSetApply)

/-! ### WALL_SET -/

/-- The wall settings that a WALL_SET stores (R42, R84); none for a field that is refused with BAD_FIELD. -/
def Message.wallSet (m : Message) : Option WallSet :=
  match sourceOf (m.num 3) with
  | none => none
  | some source =>
    if h : m.num 4 < 3 then
      if m.num 7 ≤ 8 then
        some
          { timebase := ⟨source, ⟨m.num 4, h⟩, max (m.num2 5) 1000⟩
            common := ⟨m.num 7, clampNat 1 16 (m.num 8), min (m.num 9) 7, clampNat 100 4095 (m.num2 10)⟩ }
      else none
    else none

/-- The outcome of a WALL_SET (R84). -/
def wallSetOutcome (p : Port) (m : Message) (s : State) : EditOutcome :=
  if !s.eu.permits[p].rights.wall then .isProtected
  else if (Message.wallSet m).isNone then .badField
  else .accepted

/-- Wall settings reach the blocks (R2, R8, R141, R162): an UNSET timebase starts and hands on sweep count, shift and
P; otherwise they are held as the pending set. -/
def State.acceptWall (set : WallSet) (s : State) : State :=
  if s.wtb.state = .unset then
    { s with
      wtb := s.wtb.accept set
      ambient := s.ambient.handover set.common
      dimmer := s.dimmer.handover set.common }
  else { s with wtb := s.wtb.accept set }

/-- An ACCEPTED WALL_SET (R84). -/
def wallSetApply (_ : Port) (m : Message) (s : State) : State :=
  match Message.wallSet m with
  | none => s
  | some set => s.acceptWall set

/-- WALL_SET (R84). -/
def execWallSet (s : State) (m : Moment := .later) : Host.Outcome State Fault Refusal :=
  s.event m (State.complete .wallSet wallSetOutcome wallSetApply)

/-! ### PHASE_SET -/

/-- The phase watch of a port changed, with the STEP that a changed status makes owed (R136). -/
def State.setWatch (p : Port) (e : EchoWatch) (s : State) : State :=
  { s with
    watch := s.watch.set p e
    composers := modifyAt s.composers p (Composer.noteStatus s.watch[p].status e.status) }

/-- The outcome of a PHASE_SET (R85). -/
def phaseSetOutcome (p : Port) (m : Message) (s : State) : EditOutcome :=
  if m.num 3 ≠ p.val ∧ s.eu.permits[p].rights.wall = false then .isProtected
  else if 5 < m.num 3 ∨ (echoModeOf (m.num 4)).isNone then .badField
  else .accepted

/-- An ACCEPTED PHASE_SET (R137). -/
def phaseSetApply (_ : Port) (m : Message) (s : State) : State :=
  match portOf (m.num 3), echoModeOf (m.num 4) with
  | some q, some mode => s.setWatch q (s.watch[q].set ⟨mode, m.num2 5⟩)
  | _, _ => s

/-- PHASE_SET (R85). -/
def execPhaseSet (s : State) (m : Moment := .later) : Host.Outcome State Fault Refusal :=
  s.event m (State.complete .phaseSet phaseSetOutcome phaseSetApply)

/-! ### PERMIT and LOCK -/

/-- The record that a PERMIT stores (R44, R86): an empty range when id low is greater than id high. -/
def Message.permission (m : Message) : Permission where
  idRange := if m.num 4 ≤ m.num 5 then some (m.char 4, m.char 5) else none
  direct := PortMask.ofByte (m.char 6)
  rights := Rights.ofByte (m.char 7)

/-- The outcome of a PERMIT (R86). -/
def permitOutcome (p : Port) (m : Message) (s : State) : EditOutcome :=
  if !s.eu.permits[p].rights.permit then .isProtected
  else if s.eu.lock then .locked
  else if 5 < m.num 3 then .badField
  else .accepted

/-- An ACCEPTED PERMIT (R86). -/
def permitApply (_ : Port) (m : Message) (s : State) : State :=
  match portOf (m.num 3) with
  | none => s
  | some q => { s with eu := { s.eu with permits := s.eu.permits.set q m.permission } }

/-- PERMIT (R86). -/
def execPermit (s : State) (m : Moment := .later) : Host.Outcome State Fault Refusal :=
  s.event m (State.complete .permit permitOutcome permitApply)

/-- The outcome of a LOCK (R87). -/
def lockOutcome (p : Port) (_ : Message) (s : State) : EditOutcome :=
  if !s.eu.permits[p].rights.permit then .isProtected else .accepted

/-- An ACCEPTED LOCK (R78, R87). -/
def lockApply (_ : Port) (_ : Message) (s : State) : State :=
  { s with eu := { s.eu with lock := true } }

/-- LOCK (R87). -/
def execLock (s : State) (m : Moment := .later) : Host.Outcome State Fault Refusal :=
  s.event m (State.complete .lock lockOutcome lockApply)

/-! ### SAVE and its phases -/

/-- A SAVE in WORKING lacks the right and completes PROTECTED (R88). -/
def saveRefused (_ : Port) (_ : Message) (_ : State) : EditOutcome :=
  .isProtected

/-- SAVE (R88): completes PROTECTED when it was taken without the right, or ACCEPTED at the end of the mark phase, with
the marker present (R167). -/
def execSave (s : State) (m : Moment := .later) : Host.Outcome State Fault Refusal :=
  s.event m fun s =>
    if s.eu.state = .storing ∧ s.page.inPhase .mark = true then
      { s with page := s.page.endSave true }.completeSave .accepted
    else s.complete .save saveRefused fun _ _ t => t

/-- ERASE (R167). -/
def execErase (s : State) (m : Moment := .later) : Host.Outcome State Fault Refusal :=
  s.event m fun s => { s with page := s.page.erased }

/-- PROGRAM (R167). -/
def execProgram (s : State) (m : Moment := .later) : Host.Outcome State Fault Refusal :=
  s.event m fun s => { s with page := s.page.programmed }

/-- CHECK (R167): a match begins the mark phase, a mismatch ends the save, and the SAVE completes STORE_FAULT. -/
def execCheck (found : Bool) (s : State) (m : Moment := .later) : Host.Outcome State Fault Refusal :=
  s.event m fun s =>
    if s.page.inPhase .check then
      if found then { s with page := s.page.matched }
      else { s with page := s.page.endSave false }.completeSave .storeFault
    else s

end Sys2Proof.Machine
end

