-- ==== Sys2Proof/Machine/Links.lean ====
section
/-! DEFINITION. The player link ports (chapter 2): receiving, assembly, dispatch with OVERRUN, readiness answers and
queries as they arrive, the transmitter's characters, break and port reset; and their meanings. -/

namespace Sys2Proof.Machine

/-! ### Receiving (R21 to R24) -/

/-- A character with wrong parity or a space stop bit (R21): discarded with any partial message, flags set; after a space
stop bit the receiver waits for mark. -/
def Link.badCharacter (ch : LineChar) (l : Link) : Link :=
  { l with
    rx := .hunting
    receiver := if ch.stopMark then l.receiver else .awaitingMark
    flags := { l.flags with
      parity := l.flags.parity || !parityOk ch
      framing := l.flags.framing || !ch.stopMark } }

/-- A good mark character (R22, R24): a message being assembled ends short with TRUNCATED; a request kind starts a new
message, any other code sets BAD_KIND. -/
def Link.markCharacter (code : Byte) (l : Link) : Link :=
  let flags := { l.flags with truncated := l.flags.truncated || decide (l.rx ≠ .hunting) }
  match requestKind code with
  | some _ => { l with rx := .assembling [code] 1, flags := flags }
  | none => { l with rx := .hunting, flags := { flags with badKind := true } }

/-- The assembly buffer with a further character: it keeps at most 43 (R23). -/
def keepCharacter (buffer : List Byte) (b : Byte) : List Byte :=
  if buffer.length < bufferCap then buffer ++ [b] else buffer

/-- A good data character (R22, R23): discarded in HUNTING, assembled in ASSEMBLING; the message it completes, if any. -/
def Link.dataCharacter (b : Byte) (l : Link) : Link × Option Message :=
  match l.rx with
  | .hunting => (l, none)
  | .assembling buffer count =>
    let buffer' := keepCharacter buffer b
    if messageLength buffer' = some (count + 1) then ({ l with rx := .hunting }, some buffer')
    else ({ l with rx := .assembling buffer' (count + 1) }, none)

/-- A character arrives on a port (R21 to R24, R36): the port after it and the message it completes, if any. A receiver
that is stopped or awaits mark takes no character. -/
def Link.receive (ch : LineChar) (l : Link) : Link × Option Message :=
  match l.receiver with
  | .stopped | .awaitingMark => (l, none)
  | .ready =>
    if goodChar ch then
      if ch.mark then (l.markCharacter ch.data, none) else l.dataCharacter ch.data
    else (l.badCharacter ch, none)

/-! ### Dispatch (R25, R26) -/

/-- A READY taken or discarded by the arming unit (R96, R98). -/
def State.answer (p : Port) (id : Byte) (entry : Cue → Readiness) (s : State) : State :=
  if s.sched.takesAnswer id p then
    { s with sched := s.sched.updateCue id fun c => c.setReadiness p (entry c) }
  else if s.sched.straysAnswer id p then
    s.modifyLink p fun l => { l with flags := { l.flags with stray := true } }
  else s

/-- A message of a kind, placed in the empty holding slot, goes to its block (R26). -/
def State.dispatch (p : Port) (m : Message) (s : State) : State :=
  match Message.kind m with
  | none => s
  | some .ready => s.answer p (m.char 2) fun c => c.readyEntry p (BitVec.ofNat 16 (m.num2 3))
  | some .unready => s.answer p (m.char 2) fun _ => .refused (m.char 3)
  | some .query =>
    { s with composers := modifyAt s.composers p fun c => { c with report := some (m.char 2, m.char 3) } }
  | some .cuePut | some .cueDrop | some .zoneSet | some .wallSet | some .phaseSet | some .permit | some .lock
  | some .save => s.placeEdit p m

/-- A message completes (R25): lost with OVERRUN behind a waiting edit, else dispatched. -/
def State.deliver (p : Port) (m : Message) (s : State) : State :=
  if s.links[p].holding.isSome then
    s.modifyLink p fun l => { l with flags := { l.flags with overrun := true } }
  else s.dispatch p m

/-- A character arrives on port `p` (R21 to R26). -/
def State.receive (p : Port) (ch : LineChar) (s : State) : State :=
  let taken := s.links[p].receive ch
  let s' := { s with links := s.links.set p taken.1 }
  match taken.2 with
  | none => s'
  | some m => s'.deliver p m

/-- The kind of the message that the good data character `b` would complete on port `p`, if any (R23). -/
def State.completesKind (p : Port) (b : Byte) (s : State) : Option RequestKind :=
  (s.links[p].receive (outgoing false b)).2.bind Message.kind

/-- RECEIVED_CHARACTER (R22). -/
def execReceivedCharacter (p : Port) (ch : LineChar) (s : State) (m : Moment := .later) : Host.Outcome State Fault Refusal :=
  s.event m fun s => s.receive p ch

/-- EDIT_ARRIVAL (R26): the character completes an edit. -/
def execEditArrival (p : Port) (last : Byte) (s : State) (m : Moment := .later) : Host.Outcome State Fault Refusal :=
  s.event m fun s =>
    if ((s.completesKind p last).map RequestKind.isEdit).getD false then s.receive p (outgoing false last) else s

/-- READY (R96): the character completes a READY. -/
def execReady (p : Port) (last : Byte) (s : State) (m : Moment := .later) : Host.Outcome State Fault Refusal :=
  s.event m fun s => if s.completesKind p last = some .ready then s.receive p (outgoing false last) else s

/-- UNREADY (R96): the character completes an UNREADY. -/
def execUnready (p : Port) (last : Byte) (s : State) (m : Moment := .later) : Host.Outcome State Fault Refusal :=
  s.event m fun s => if s.completesKind p last = some .unready then s.receive p (outgoing false last) else s

/-- QUERY (R122): the character completes a QUERY. -/
def execQuery (p : Port) (last : Byte) (s : State) (m : Moment := .later) : Host.Outcome State Fault Refusal :=
  s.event m fun s => if s.completesKind p last = some .query then s.receive p (outgoing false last) else s

/-- RETURN_TO_MARK (R21, R32, R33): a receiver that awaits mark is ready, and the break detector is armed again. -/
def execReturnToMark (p : Port) (s : State) (m : Moment := .later) : Host.Outcome State Fault Refusal :=
  s.event m fun s => s.modifyLink p fun l =>
    { l with
      receiver := if l.receiver = .awaitingMark then .ready else l.receiver
      detector := if l.detector = .awaitingMark then .measuring else l.detector }

/-! ### Transmitter (R30) -/

/-- STOP_BIT_END (R30, R33): a character that is not the last of its message ends. -/
def Link.stopBitEnd (l : Link) : Link :=
  match l.tx with
  | .sending _ (b :: rest) =>
    { l with tx := if l.cts then .sending (outgoing false b) rest else .waiting (b :: rest) }
  | .abandoned _ => { l with tx := .idle }
  | .sending _ [] | .waiting _ | .idle => l

/-- MESSAGE_END (R30): the last character of a message ends and the transmitter is IDLE. -/
def Link.messageEnd (l : Link) : Link :=
  match l.tx with
  | .sending _ [] => { l with tx := .idle }
  | .sending _ (_ :: _) | .abandoned _ | .waiting _ | .idle => l

/-- CTS changes (R30): a character that waits for CTS starts when it is asserted. -/
def Link.ctsChange (level : Bool) (l : Link) : Link :=
  match l.tx with
  | .waiting (b :: rest) =>
    { l with cts := level, tx := if level then .sending (outgoing false b) rest else .waiting (b :: rest) }
  | .waiting [] | .idle | .sending _ _ | .abandoned _ => { l with cts := level }

/-- The port's RTR output, true when asserted (R28). -/
def Link.rtr (l : Link) : Bool :=
  decide (l.receiver ≠ .stopped) && l.holding.isNone

/-- STOP_BIT_END (R30). -/
def execStopBitEnd (p : Port) (s : State) (m : Moment := .later) : Host.Outcome State Fault Refusal :=
  s.event m (State.modifyLink p Link.stopBitEnd)

/-- MESSAGE_END (R30, R31): the next message, if one is owed, is the next step, before any later event (log 10). -/
def execMessageEnd (p : Port) (s : State) (m : Moment := .later) : Host.Outcome State Fault Refusal :=
  s.event m (State.modifyLink p Link.messageEnd)

/-- CTS_ASSERTED (R30, R31): a message that the port may start before the change starts, at whatever moment CTS changes; one
that the change lets it start is the next step, before any later event (log 10). -/
def execCtsAsserted (p : Port) (level : Bool) (s : State) (m : Moment := .later) : Host.Outcome State Fault Refusal :=
  s.event m fun s => (s.startOn p).modifyLink p (Link.ctsChange level)

/-! ### Break and port reset (R32 to R34) -/

/-- The transmitter abandons its message (R33): a character in progress is sent whole. -/
def TxState.abandon : TxState → TxState
  | .idle => .idle
  | .sending current [] => .sending current []
  | .sending current (_ :: _) => .abandoned current
  | .waiting _ => .idle
  | .abandoned current => .abandoned current

/-- The port itself at its reset (R33), with its detector waiting for mark (R32). -/
def Link.portReset (l : Link) : Link where
  receiver := .awaitingMark
  rx := .hunting
  detector := .awaitingMark
  holding := none
  flags := .clear
  tx := l.tx.abandon
  cts := l.cts

/-- A port reset (R33, R34): the port, then its composer's owed notices, then edit slots, arming unit and phase watch. The
notices that the last two make owed come after the clearing and stand. -/
def State.portReset (p : Port) (s : State) : State :=
  let cleared := { s with
    links := modifyAt s.links p Link.portReset
    composers := s.composers.set p ⟨false, none⟩
    sched := s.sched.portReset p
    eu := { s.eu with slots := modifyAt s.eu.slots p fun l => l.filterMap resetSlot } }
  cleared.setWatch p (EchoWatch.fresh s.watch[p].settings)

/-- BREAK (R32): recognised once until RXD returns to mark, and only while the detector runs (R36). -/
def execLineBreak (p : Port) (s : State) (m : Moment := .later) : Host.Outcome State Fault Refusal :=
  s.event m fun s => if s.links[p].detector = .measuring then s.portReset p else s

end Sys2Proof.Machine
end

