-- ==== Sys2Proof/Machine/Resets.lean ====
section
/-! DEFINITION. Power-on reset, pin reset, and the start and end of the settings page load (R169, R170), with their
meanings. -/

namespace Sys2Proof.Machine

/-- Every block in its reset values and the page in LOADING (R169); the page's record and marker are non-volatile
(R165, R168), the CTS levels are the outside's, and the waiting commands are not part of the chip. DESIGN CHOICE (log 26): a
reset that cuts a save short leaves the record as the last phase that ended left it; no load reads it. -/
def State.resetBlocks (s : State) : State :=
  { State.reset with
    links := mapAt (fun _ l => Link.reset l.cts) s.links
    page := ⟨.loading false, s.page.record, s.page.marker⟩
    pending := s.pending
    freeCount := s.freeCount }

/-- POWER_ON_RESET (R169). -/
def execPowerOnReset (s : State) (m : Moment := .later) : Host.Outcome State Fault Refusal :=
  s.event m State.resetBlocks

/-- PIN_RESET (R169): the same effect; the load does not run while RESET is low. -/
def execPinReset (s : State) (m : Moment := .later) : Host.Outcome State Fault Refusal :=
  s.event m State.resetBlocks

/-- LOAD_START (R169): the load begins. -/
def execLoadStart (s : State) (m : Moment := .later) : Host.Outcome State Fault Refusal :=
  s.event m fun s => if s.page.state = .loading false then { s with page := { s.page with state := .loading true } } else s

/-- A port at the end of the load (R36): RTR asserted by its empty holding slot, the receiver in HUNTING, waiting for
mark if RXD is at space, and the detector measuring. -/
def Link.started (atSpace : Bool) (l : Link) : Link :=
  { l with receiver := if atSpace then .awaitingMark else .ready, rx := .hunting, detector := .measuring }

/-- The timebase at the end of the load (R8, R18, R170): it starts if the settings hold a timebase. -/
def Wtb.loaded (set : Settings) (t : Wtb) : Wtb :=
  match set.timebase with
  | none => { t with common := set.common }
  | some timebase => t.start ⟨timebase, set.common⟩

/-- The end of the load (R170). -/
def State.loaded (rxdAtSpace : Vector Bool 6) (s : State) : State :=
  let set := s.page.loadedSettings
  let watch := mapAt (fun p _ => EchoWatch.fresh set.echo[p]) s.watch
  { s with
    wtb := s.wtb.loaded set
    links := mapAt (fun p l => l.started rxdAtSpace[p]) s.links
    eu := { s.eu with permits := set.permits }
    composers := mapAt (fun p c => c.noteStatus s.watch[p].status watch[p].status) s.composers
    watch := watch
    ambient := s.ambient.handover set.common
    dimmer :=
      { zones := mapAt (fun z _ => Zone.loaded set.zones[z]) s.dimmer.zones
        p := set.common.pwmPeriod
        counterPeriod := set.common.pwmPeriod
        counter := 0
        divider := 0
        running := true }
    page := { s.page with state := .idle } }

/-- LOAD_END (R170): ends a load that has begun. -/
def execLoadEnd (rxdAtSpace : Vector Bool 6) (s : State) (m : Moment := .later) : Host.Outcome State Fault Refusal :=
  s.event m fun s => if s.page.state = .loading true then s.loaded rxdAtSpace else s

end Sys2Proof.Machine
end

