-- ==== Sys2Proof/Machine/Strobe.lean ====
section
/-! DEFINITION. A strobe of the whole part (R4, R95, R134, R152), the meanings of the commands of the timebase, the phase
watch, the ambient sweep and the PWM counter, and the passing of a base period. -/

namespace Sys2Proof.Machine

/-- The step statuses that the examination of the cue with number `k` in fire order reads (R99, R100, R134): those after the
strobe of the ports whose parts of the phase watch took it by then, and those before it of the others. -/
def statusesAt (order : StrobeOrder) (before after : Vector EchoWatch 6) (k : Nat) : Vector StepStatus 6 :=
  mapAt (fun p e => if order.examinedBefore[p] ≤ k then after[p].status else e.status) before

/-- The composers after the phase watch has taken a strobe (R134, R136). -/
def noteStatuses (before after : Vector EchoWatch 6) (composers : Vector Composer 6) : Vector Composer 6 :=
  mapAt (fun p c => c.noteStatus before[p].status after[p].status) composers

/-- What a strobe makes of the ambient sweep (R5, R17, R142): settings handed over by an applied pending set, or a sweep
trigger. -/
def Ambient.strobe (before : Wtb) (a : Ambient) : Ambient :=
  match before.pending with
  | some set => a.handover set.common
  | none => if before.triggersSweep then a.trigger else a

/-- A strobe (R4). `s.wtb` is the timebase as the cause of the strobe left it. The timebase takes the strobe first: the
others work with the new W. Each deadline reads a port's step status before or after the change that this strobe makes to it,
by `order.examinedBefore` (R100, R134; log 4). The zone dimmer computes with the cues as the arming unit left them; the order
of the two has no effect (R109). -/
def State.strobe (order : StrobeOrder) (s : State) : State :=
  let wtb := s.wtb.strobe
  let watch := mapAt (fun _ e => e.strobe) s.watch
  let sched := s.sched.strobe wtb.w (statusesAt order s.watch watch)
  { s with
    wtb := wtb
    watch := watch
    composers := noteStatuses s.watch watch s.composers
    sched := sched
    ambient := s.ambient.strobe s.wtb
    dimmer := s.dimmer.strobe wtb.w sched.live s.ambient.sensors (s.wtb.pending.map (·.common.pwmPeriod))
      order.handoverFirst }

/-! ### Commands of the timebase -/

/-- FREE_RUNNING_STROBE (R3): in FREE, SEEKING or HOLDOVER the frame timer reaches N. -/
def execFreeRunningStrobe (order : StrobeOrder) (s : State) : Host.Outcome State Fault Refusal :=
  s.event order.moment fun s => if s.wtb.state.runsFree then { s with wtb := s.wtb.passToLimit }.strobe order else s

/-- LATE_LIMIT_STROBE (R14): in an ordinary LOCKED frame the count reaches N + N/8. -/
def execLateLimitStrobe (order : StrobeOrder) (s : State) : Host.Outcome State Fault Refusal :=
  s.event order.moment fun s =>
    if s.wtb.state = .locked ∧ s.wtb.relockFrame = false then
      { s with wtb := s.wtb.passToLimit.lateLimitMiss }.strobe order
    else s

/-- RELOCK_FRAME_LIMIT (R12): a relock frame reaches 2N + N/8. -/
def execRelockFrameLimit (order : StrobeOrder) (s : State) : Host.Outcome State Fault Refusal :=
  s.event order.moment fun s =>
    if s.wtb.state = .locked ∧ s.wtb.relockFrame = true then
      { s with wtb := s.wtb.passToLimit.toHoldover }.strobe order
    else s

/-- REFERENCE_EDGE (R9 to R13): after `ticks` ticks of the frame in progress an edge is taken. -/
def execReferenceEdge (ticks : Nat) (order : StrobeOrder) (s : State) : Host.Outcome State Fault Refusal :=
  s.event order.moment fun s =>
    let r := (s.wtb.passUpTo ticks).referenceEdge
    if r.2 then { s with wtb := r.1 }.strobe order else { s with wtb := r.1 }

/-- INTERVAL_TOO_LONG (R10). -/
def execIntervalTooLong (s : State) (m : Moment := .later) : Host.Outcome State Fault Refusal :=
  s.event m fun s => { s with wtb := s.wtb.intervalTooLong }

/-- FRAME_PULSE_END (R6): the FRAME output returns low. -/
def execFramePulseEnd (s : State) (m : Moment := .later) : Host.Outcome State Fault Refusal :=
  s.event m fun s => { s with wtb := { s.wtb with frameHigh := false } }

/-! ### Phase watch, ambient sweep, PWM -/

/-- ECHO_EDGE (R131 to R135): after `ticks` ticks of the frame in progress; not counted while the timebase is UNSET. -/
def execEchoEdge (p : Port) (ticks : Nat) (s : State) (m : Moment := .later) : Host.Outcome State Fault Refusal :=
  s.event m fun s =>
    let t := s.wtb.passUpTo ticks
    if t.state = .unset then s else { s with wtb := t }.setWatch p (s.watch[p].edge t.c t.n)

/-- CONVERSION_END (R140, R142). -/
def execConversionEnd (sample : Nat) (s : State) (m : Moment := .later) : Host.Outcome State Fault Refusal :=
  s.event m fun s => { s with ambient := s.ambient.conversionEnd sample }

/-- WRAP (R161). -/
def execWrap (s : State) (m : Moment := .later) : Host.Outcome State Fault Refusal :=
  s.event m fun s => { s with dimmer := s.dimmer.wrap }

/-! ### The passing of time on an empty queue -/

/-- Whether the frame in progress has reached the count that ends it (R3). -/
def Wtb.frameDue (t : Wtb) : Bool :=
  decide (t.state ≠ .unset) && decide (t.limit ≤ t.c)

/-- The timebase as the limit of its frame leaves it before the strobe (R3, R12, R14). -/
def Wtb.atLimit (t : Wtb) : Wtb :=
  match t.state with
  | .unset | .free | .seeking | .holdover => t
  | .locked => if t.relockFrame then t.toHoldover else t.lateLimitMiss

/-- The end of a frame that has reached its limit (R3), whose order was a free value (log 5). -/
def State.endFrame (order : StrobeOrder) (s : State) : State :=
  { s with wtb := s.wtb.atLimit, freeCount := s.freeCount + 1 }.strobe order

/-- One 10 MHz base period (R1, R161). -/
def State.basePeriod (s : State) : State :=
  { s with wtb := s.wtb.basePeriod, dimmer := s.dimmer.basePeriod }

/-- What happens while no command waits (R1, R3, R31, R161): a frame that has reached its limit ends with its strobe, in an
order and at a moment that are a free value (log 5, log 10); else the starts that are due are made and one base period
passes. DESIGN CHOICE (log 25): a base period that brings both the last count of a frame and a wrap of the PWM counter wraps,
and the strobe follows in the next step, so here the wrap is taken first. -/
def State.elapse (s : State) : State :=
  if s.wtb.frameDue then
    let order := Config.strobeOrder s.freeCount
    (s.atMoment order.moment).endFrame order
  else s.startDue.basePeriod

end Sys2Proof.Machine
end

