-- ==== Sys2Proof/Machine/Dispatch.lean ====
section
/-! DEFINITION. The meaning of every command: one arm for each constructor of Instr. -/

namespace Sys2Proof.Machine

/-- The effect of a command on everything but the queue of waiting commands. -/
def exec (i : Instr) (s : State) : Host.Outcome State Fault Refusal :=
  match i with
  | .powerOnReset m => Sys2Proof.Machine.execPowerOnReset s m
  | .pinReset m => Sys2Proof.Machine.execPinReset s m
  | .loadStart m => Sys2Proof.Machine.execLoadStart s m
  | .loadEnd rxd m => Sys2Proof.Machine.execLoadEnd rxd s m
  | .freeRunningStrobe o => Sys2Proof.Machine.execFreeRunningStrobe o s
  | .referenceEdge ticks o => Sys2Proof.Machine.execReferenceEdge ticks o s
  | .lateLimitStrobe o => Sys2Proof.Machine.execLateLimitStrobe o s
  | .relockFrameLimit o => Sys2Proof.Machine.execRelockFrameLimit o s
  | .intervalTooLong m => Sys2Proof.Machine.execIntervalTooLong s m
  | .framePulseEnd m => Sys2Proof.Machine.execFramePulseEnd s m
  | .receivedCharacter p ch m => Sys2Proof.Machine.execReceivedCharacter p ch s m
  | .editArrival p b m => Sys2Proof.Machine.execEditArrival p b s m
  | .ready p b m => Sys2Proof.Machine.execReady p b s m
  | .unready p b m => Sys2Proof.Machine.execUnready p b s m
  | .query p b m => Sys2Proof.Machine.execQuery p b s m
  | .lineBreak p m => Sys2Proof.Machine.execLineBreak p s m
  | .ctsAsserted p level m => Sys2Proof.Machine.execCtsAsserted p level s m
  | .messageEnd p m => Sys2Proof.Machine.execMessageEnd p s m
  | .prepare p => Sys2Proof.Machine.execPrepare p s
  | .defer p => Sys2Proof.Machine.execDefer p s
  | .commit p => Sys2Proof.Machine.execCommit p s
  | .abort p => Sys2Proof.Machine.execAbort p s
  | .editResult p => Sys2Proof.Machine.execEditResult p s
  | .report p => Sys2Proof.Machine.execReport p s
  | .step p => Sys2Proof.Machine.execStep p s
  | .cuePut m => Sys2Proof.Machine.execCuePut s m
  | .cueDrop m => Sys2Proof.Machine.execCueDrop s m
  | .zoneSet m => Sys2Proof.Machine.execZoneSet s m
  | .wallSet m => Sys2Proof.Machine.execWallSet s m
  | .phaseSet m => Sys2Proof.Machine.execPhaseSet s m
  | .permit m => Sys2Proof.Machine.execPermit s m
  | .lock m => Sys2Proof.Machine.execLock s m
  | .save m => Sys2Proof.Machine.execSave s m
  | .erase m => Sys2Proof.Machine.execErase s m
  | .program m => Sys2Proof.Machine.execProgram s m
  | .check found m => Sys2Proof.Machine.execCheck found s m
  | .echoEdge p ticks m => Sys2Proof.Machine.execEchoEdge p ticks s m
  | .conversionEnd a m => Sys2Proof.Machine.execConversionEnd a s m
  | .wrap m => Sys2Proof.Machine.execWrap s m
  | .returnToMark p m => Sys2Proof.Machine.execReturnToMark p s m
  | .stopBitEnd p m => Sys2Proof.Machine.execStopBitEnd p s m

end Sys2Proof.Machine
end

