-- ==== Sys2Proof/Safety.lean ====
section
/-! DEFINITION. What the claims about the machine are stated in: which commands end a frame, when no start of a
message comes before an event, and the laws that every step keeps, block by block. -/

namespace Sys2Proof.Machine

/-! ### Strobes -/

/-- Whether a command ends the frame in progress with a strobe (R3, table), and in which order the blocks take it. -/
def strobeOf (i : Instr) (s : State) : Option StrobeOrder :=
  match i with
  | .freeRunningStrobe o =>
    if s.wtb.state = .free ∨ s.wtb.state = .seeking ∨ s.wtb.state = .holdover then some o else none
  | .lateLimitStrobe o => if s.wtb.state = .locked ∧ s.wtb.relockFrame = false then some o else none
  | .relockFrameLimit o => if s.wtb.state = .locked ∧ s.wtb.relockFrame = true then some o else none
  | .referenceEdge ticks o =>
    if s.wtb.state = .locked ∧ s.wtb.n / 2 ≤ s.wtb.c + min ticks (s.wtb.limit - s.wtb.c) then some o else none
  | _ => none

/-- The step status of a port that the examination of the cue with number `k` in fire order reads at a strobe (R99, R100): the
one after the strobe when the port's part of the phase watch took it by then, else the one before it. -/
def State.statusAt (s : State) (o : StrobeOrder) (k : Nat) (p : Port) : StepStatus :=
  if o.examinedBefore[p] ≤ k then s.watch[p].strobe.status else s.watch[p].status

/-- The schedule after a strobe has examined some of its cues, the first of which has number `k` in fire order (R95). -/
def State.examined (s : State) (o : StrobeOrder) (cues : List Cue) (k : Nat) (sch : Schedule) : Schedule :=
  sch.examineAll (s.wtb.w + 1) (statusesAt o s.watch (mapAt (fun _ e => e.strobe) s.watch)) (cues.zipIdx k)

/-- The schedule with every take line deasserted, as a strobe finds it before it examines the first cue (R105). -/
def Schedule.takeLow (sch : Schedule) : Schedule :=
  { sch with take := Vector.replicate 6 false }

/-! ### Starts of messages -/

/-- No start is due (R31): no IDLE transmitter with CTS asserted has a notice to send. -/
abbrev State.Settled (s : State) : Prop :=
  ∀ p : Port, s.chosen p = none

/-- No message starts before an event of this moment: it falls together with the event before it, or no start is due (log 10).
Every event finds the part as the starts before it leave it. -/
abbrev State.NoStartBefore (s : State) (m : Moment) : Prop :=
  m = .later → s.Settled

/-- The port of a send command. -/
def sendPort (i : Instr) : Option Port :=
  match i with
  | .prepare p | .defer p | .commit p | .abort p | .editResult p | .report p | .step p => some p
  | _ => none

/-- The moment of a command; none for a send command, which is a start itself. -/
def momentOf (i : Instr) : Option Moment :=
  match i with
  | .prepare _ | .defer _ | .commit _ | .abort _ | .editResult _ | .report _ | .step _ => none
  | .freeRunningStrobe o | .referenceEdge _ o | .lateLimitStrobe o | .relockFrameLimit o => some o.moment
  | .powerOnReset m | .pinReset m | .loadStart m | .loadEnd _ m | .intervalTooLong m | .framePulseEnd m
  | .receivedCharacter _ _ m | .editArrival _ _ m | .ready _ _ m | .unready _ _ m | .query _ _ m | .lineBreak _ m
  | .ctsAsserted _ _ m | .messageEnd _ m | .cuePut m | .cueDrop m | .zoneSet m | .wallSet m | .phaseSet m | .permit m
  | .lock m | .save m | .erase m | .program m | .check _ m | .echoEdge _ _ m | .conversionEnd _ m | .wrap m
  | .returnToMark _ m | .stopBitEnd _ m => some m

/-- The state that a command answers; the same state where it answers none. -/
def runCommand (s : State) (i : Instr) : State :=
  match exec i s with
  | .next t => t
  | .fault _ | .refused _ => s

/-! ### The timebase -/

/-- The legal ranges of the settings that the timebase hands to other blocks (R2). -/
structure WallCommon.Lawful (k : WallCommon) : Prop where
  sweepCount_le : k.sweepCount ≤ 8
  sweepDivisor_range : 1 ≤ k.sweepDivisor ∧ k.sweepDivisor ≤ 16
  filterShift_le : k.filterShift ≤ 7
  period_range : 100 ≤ k.pwmPeriod ∧ k.pwmPeriod ≤ 4095

/-- N lies from 1000 to 65535 (R2). -/
def Timebase.Lawful (b : Timebase) : Prop :=
  1000 ≤ b.n ∧ b.n ≤ 65535

/-- The law of the timebase (R2, R3, R8, R10, R11, R14, R17): the source fits the state, every count lies in its range,
only SEEKING and HOLDOVER measure, only LOCKED misses and has a relock frame, and an UNSET timebase has not counted. -/
structure Wtb.Lawful (t : Wtb) : Prop where
  common : t.common.Lawful
  timebase : ∀ b ∈ t.timebase, b.Lawful
  pending : ∀ set ∈ t.pending, set.timebase.Lawful ∧ set.common.Lawful
  unset_iff : t.state = .unset ↔ t.timebase = none
  unset_still : t.state = .unset →
    t.w = 0 ∧ t.c = 0 ∧ t.prescaleCount = 0 ∧ t.pending = none ∧ t.postscaler = 0 ∧ t.frameHigh = false
  free_source : t.state = .free → ∀ b ∈ t.timebase, b.source = .internal
  follow_source : t.state = .seeking ∨ t.state = .holdover ∨ t.state = .locked →
    ∀ b ∈ t.timebase, b.source = .reference
  count_le : t.c ≤ t.limit
  interval_le : ∀ i ∈ t.interval, i ≤ t.n + t.n / 8
  measures_only : t.state.measures = false → t.interval = none ∧ t.relockRun = 0
  relockRun_le : t.relockRun ≤ 3
  missRun_le : t.missRun ≤ 2
  missRun_locked : t.state ≠ .locked → t.missRun = 0 ∧ t.relockFrame = false
  postscaler_lt : t.postscaler < t.common.sweepDivisor
  prescale_lt : t.prescaleCount < t.division

/-! ### Player links -/

/-- The law of a port (R22, R23, R25, R30, R36): a message being assembled is short of its length, only an edit waits in the
holding slot, and the receiver and the break detector run together. -/
structure Link.Lawful (l : Link) : Prop where
  assembling : ∀ buffer count, l.rx = .assembling buffer count →
    buffer.length = min count bufferCap ∧ 1 ≤ count ∧ (Message.kind buffer).isSome = true
      ∧ ∀ n ∈ messageLength buffer, count < n
  holding_edit : ∀ m ∈ l.holding, ∃ k ∈ Message.kind m, k.isEdit = true
  stopped_iff : l.receiver = .stopped ↔ l.detector = .stopped
  stopped_still : l.receiver = .stopped → l.rx = .hunting ∧ l.holding = none ∧ l.flags = .clear
  waiting_cts : ∀ rest, l.tx = .waiting rest → rest ≠ [] ∧ l.cts = false

/-- The part after a cue notice of a live cue is sent on a port (R30, R117): the cue, between the cues before and after it in
fire order, as the sending leaves it, and the transmitter with the notice's first character on the line. -/
def State.afterNotice (s : State) (p : Port) (earlier : List Cue) (c : Cue) (later : List Cue) (kind : Byte)
    (chars : List Byte) : State :=
  { s with
    sched := { s.sched with live := earlier ++ c :: later }
    links := s.links.set p { s.links[p] with tx := .sending (outgoing true kind) chars } }

/-! ### The edit unit -/

/-- Whether a slot is ACTIVE, orphaned or not (R71, R89). -/
def EditSlot.isActive (x : EditSlot) : Bool :=
  decide (x.status = .active false) || decide (x.status = .active true)

/-- The ACTIVE slots of the part, port by port (R74). -/
def EditUnit.activeSlots (eu : EditUnit) : List (Port × EditSlot) :=
  allPorts.flatMap fun p => (eu.slots[p].filter EditSlot.isActive).map fun x => (p, x)

/-- An id range that is not empty has its low end first (R44, R77). -/
def Permission.Lawful (r : Permission) : Prop :=
  ∀ range ∈ r.idRange, range.1.toNat ≤ range.2.toNat

/-- The law of the edit unit (R71, R74, R75, R77): two slots a port with names of their own, each holding an edit; one
ACTIVE slot exactly while the unit is not IDLE, and it holds a SAVE while the unit is STORING; an IDLE unit has left no
edit QUEUED. -/
structure EditUnit.Lawful (eu : EditUnit) : Prop where
  slots_le : ∀ p : Port, eu.slots[p].length ≤ slotCount
  names : ∀ p : Port, (eu.slots[p].map (·.name)).Nodup
  edits : ∀ p : Port, ∀ x ∈ eu.slots[p], ∃ k ∈ Message.kind x.edit, k.isEdit = true
  active_count : eu.activeSlots.length = if eu.state = .idle then 0 else 1
  storing_save : eu.state = .storing → ∀ a ∈ eu.activeSlots, Message.kind a.2.edit = some .save
  idle_served : eu.state = .idle → ∀ p : Port, ∀ x ∈ eu.slots[p], x.status ≠ .queued
  permits : ∀ p : Port, eu.permits[p].Lawful

/-- Whether a put is PROTECTED (R79, step 2): its cue id lies outside the requester's id range, or an entry names a port from
0 to 5 that is not in the requester's direct mask. -/
def PutProtected (r : Permission) (m : Message) : Prop :=
  (∀ range ∈ r.idRange, m.num 3 < range.1.toNat ∨ range.2.toNat < m.num 3)
    ∨ ∃ e ∈ m.entries, ∃ q : Port, q.val = e.1 ∧ inMask r.direct q = false

/-- The stored margin of a put with a transition (R57). -/
def Message.storedMargin (m : Message) (t : Transition) : Nat :=
  (storedLeadMargin (m.num2 11) (raisedMargin t (storedFade (m.num 9)) (m.num2 13))).2

/-- Fire minus W of a put (R39). -/
def Message.putAhead (w : Frame) (m : Message) : Int :=
  frameDiff (BitVec.ofNat 32 (m.num4 4)) w

/-- The faults of a put that give BAD_FIELD (R80), in the order of its list. -/
def PutFault (w : Frame) (m : Message) : Prop :=
  (m.num 25 < 1 ∨ 6 < m.num 25)
    ∨ (∃ e ∈ m.entries, 5 < e.1)
    ∨ ¬ (m.entries.map (·.1)).Nodup
    ∨ 1 < m.num 8
    ∨ 2 < m.num 15
    ∨ (m.putAhead w < 0 ∨ 2 ^ 30 ≤ m.putAhead w)
    ∨ 2 ^ 30 < m.num4 19
    ∨ m.num4 19 ≠ 0 ∧ (m.num 8 = 1 ∧ m.num4 19 ≤ storedFade (m.num 10) + m.storedMargin .dim
        ∨ m.num 8 = 0 ∧ m.num4 19 ≤ m.storedMargin .cut)

/-! ### The schedule -/

/-- The law of a live cue's stored values (R39, R55, R57, R58, R80). -/
structure Cue.Stored (c : Cue) : Prop where
  lo_range : 1 ≤ c.lo ∧ c.lo ≤ 32
  li_range : 1 ≤ c.li ∧ c.li ≤ 32
  margin_pos : 1 ≤ c.margin
  margin_dim : c.transition = .dim → c.lo + 1 ≤ c.margin
  margin_lt : c.margin + 1 ≤ c.lead
  lead_le : c.lead ≤ maxLead
  deferStep_range : 1 ≤ c.deferStep ∧ c.deferStep ≤ 65535
  deferrals_le : c.deferralsUsed ≤ c.maxDeferrals ∧ c.maxDeferrals ≤ 7
  interval_range : ∀ i ∈ c.repeatInterval, c.intervalFloor < i ∧ i ≤ horizon
  repeatCount_le : c.repeatCount ≤ 65535
  participants_range : 1 ≤ c.participants.length ∧ c.participants.length ≤ 6
  ports_nodup : (c.participants.map (·.port)).Nodup

/-- Where a live cue stands in its life cycle, by its fire minus W (R93, R94, R99, R101, R106, R107): each timed
transition has happened as soon as it was due. -/
def Cue.OnTime (w : Frame) (c : Cue) : Prop :=
  match c.state with
  | .waiting => (c.lead : Int) < c.ahead w ∧ c.ahead w ≤ horizon
  | .asking => (c.margin : Int) < c.ahead w ∧ c.ahead w ≤ horizon
  | .armed => 0 < c.ahead w ∧ c.ahead w ≤ c.margin
  | .taken => -(c.li : Int) < c.ahead w ∧ c.ahead w ≤ 0

/-- What a live cue holds in each state (R56, R92, R93, R99, R102, R104, R107, R116): a WAITING cue has asked nothing and
owes nothing; an ASKING cue has asked every participant and armed none; an ARMED or TAKEN cue has armed at least one
participant, each of them READY, and owes a COMMIT only to an armed port; only a DIM cue is TAKEN. -/
def Cue.InState (c : Cue) : Prop :=
  match c.state with
  | .waiting => c.armed = 0 ∧ (∀ x ∈ c.participants, x.readiness = .notAsked) ∧ c.notices = Vector.replicate 6 .blank
  | .asking => c.armed = 0 ∧ (∀ x ∈ c.participants, x.readiness ≠ .notAsked)
      ∧ ∀ p : Port, c.notices[p].owed ≠ some .commit
  | .armed => c.armed ≠ 0 ∧ (∀ x ∈ c.participants, inMask c.armed x.port = true → x.readiness = .ready)
      ∧ ∀ p : Port, c.notices[p].owed = some .commit → inMask c.armed p = true
  | .taken => c.transition = .dim ∧ c.armed ≠ 0
      ∧ (∀ x ∈ c.participants, inMask c.armed x.port = true → x.readiness = .ready)
      ∧ ∀ p : Port, c.notices[p].owed = some .commit → inMask c.armed p = true

/-- Only a participant's port is armed or is owed a notice of a live cue (R55, R116). -/
def Cue.OnPorts (c : Cue) : Prop :=
  ∀ p : Port, inMask c.armed p = true ∨ c.notices[p].owed ≠ none → c.hasPort p = true

/-- The law of a live cue. -/
structure Cue.Lawful (w : Frame) (c : Cue) : Prop where
  stored : c.Stored
  onTime : c.OnTime w
  inState : c.InState
  onPorts : c.OnPorts

/-- Two live cues do not clash (R63): they have different fire frames or no port in common. -/
def Cue.Apart (a b : Cue) : Prop :=
  a.fire = b.fire → ∀ p : Port, ¬ (a.hasPort p = true ∧ b.hasPort p = true)

/-- The law of the schedule (R53, R54, R59, R63, R66, R120): at most 64 live cues, in fire order, of different ids and
without a clash, and lists of at most 16 entries. -/
structure Schedule.Lawful (w : Frame) (s : Schedule) : Prop where
  places : s.live.length ≤ tablePlaces
  ids : (s.live.map (·.id)).Nodup
  fireOrder : s.live.Pairwise fun a b => a.before w b = true
  apart : s.live.Pairwise Cue.Apart
  cues : ∀ c ∈ s.live, c.Lawful w
  outcomes_le : s.outcomes.length ≤ listCap
  aborts_le : ∀ p : Port, s.aborts[p].length ≤ listCap

/-! ### Phase watch, ambient sweep, zone dimmer -/

/-- The law of one port's phase watch (R130 to R135): UNUSED exactly while its mode is UNUSED, and every count and the last
offset in their ranges. -/
structure EchoWatch.Lawful (e : EchoWatch) : Prop where
  unused_iff : e.status = .unused ↔ e.settings.mode = .unused
  tolerance_le : e.settings.tolerance ≤ 65535
  prescaler_lt : e.prescaler < max 1 e.settings.mode.divisor
  offset_range : -32768 ≤ e.lastOffset ∧ e.lastOffset ≤ 32767
  within_le : e.withinRun ≤ 2
  beyond_le : e.beyondRun ≤ 2
  frames_le : e.frames ≤ silentAfter
  inStep_runs : e.status = .inStep → e.withinRun = 0
  outOfStep_runs : e.status = .outOfStep → e.beyondRun = 0
  unused_still : e.status = .unused → e.withinRun = 0 ∧ e.beyondRun = 0 ∧ e.frames = 0

/-- The law of a sensor (R140, R144 to R148): samples, runs and F in their ranges; a sensor that has been seeded holds an F
that no rail sample ever reached. -/
structure Sensor.Lawful (x : Sensor) : Prop where
  last_le : x.last ≤ maxSample
  f_range : if x.state = .unseeded then x.f = 0 else 64 ≤ x.f ∧ x.f ≤ 65408
  railRun_le : x.railRun ≤ if x.state = .unseeded then 8 else 7
  clearRun_le : x.clearRun ≤ 7
  good_clear : x.state ≠ .faulted → x.clearRun = 0
  faulted_rail : x.state = .faulted → x.railRun = 0

/-- The law of the ambient sweep (R141, R142). -/
structure Ambient.Lawful (a : Ambient) : Prop where
  sweepCount_le : a.sweepCount ≤ 8
  filterShift_le : a.filterShift ≤ 7
  sweeping : ∀ k i, a.sweep = .sweeping k i → i.val < k ∧ k ≤ 8
  sensors : ∀ i : SensorId, a.sensors[i].Lawful

/-- The stored ranges of a zone's configuration (R41, R150, R151). -/
structure ZoneConfig.Lawful (z : ZoneConfig) : Prop where
  fixed_le : z.fixedAmbient ≤ 1023
  curve_le : ∀ i : Fin 9, z.curve[i] ≤ 1000
  trim_range : 32 ≤ z.trim ∧ z.trim ≤ 96
  limits : z.dmin ≤ z.dmax ∧ z.dmax ≤ 1000
  slew_range : 1 ≤ z.slew ∧ z.slew ≤ 1000

/-- The law of a zone (R150, R151, R155, R156, R157, R159, R160): its applied base stays between its floor and its ceiling. -/
structure Zone.Lawful (z : Zone) : Prop where
  config : z.config.Lawful
  ba_range : z.config.dmin ≤ z.ba ∧ z.ba ≤ z.config.dmax
  g_le : z.g ≤ 256
  d_le : z.d ≤ 1000
  buffer_le : z.buffer ≤ 4095
  active_le : z.active ≤ 4095

/-- The law of the zone dimmer (R150, R161, R164). -/
structure Dimmer.Lawful (d : Dimmer) : Prop where
  zones : ∀ z : ZoneId, d.zones[z].Lawful
  period_range : 100 ≤ d.p ∧ d.p ≤ 4095
  counterPeriod_range : 100 ≤ d.counterPeriod ∧ d.counterPeriod ≤ 4095
  counter_lt : d.counter < d.counterPeriod
  divider_lt : d.divider < pwmDivision
  stopped_still : d.running = false → d.counter = 0 ∧ d.divider = 0

/-! ### Settings page -/

/-- Legal settings (R165). -/
structure Settings.Lawful (set : Settings) : Prop where
  timebase : ∀ b ∈ set.timebase, b.Lawful
  common : set.common.Lawful
  echo : ∀ p : Port, set.echo[p].tolerance ≤ 65535
  zones : ∀ z : ZoneId, set.zones[z].Lawful
  permits : ∀ p : Port, set.permits[p].Lawful

/-- The law of the settings page (R165, R167): what is written and what is being saved are legal settings; the marker stands
only on a written record and never during a save; each phase finds the page as the phase before left it. -/
structure SettingsPage.Lawful (p : SettingsPage) : Prop where
  record : ∀ set ∈ p.record, set.Lawful
  marker_record : p.marker = true → p.record.isSome = true
  saving : ∀ phase snapshot, p.state = .saving phase snapshot →
    snapshot.Lawful ∧ p.marker = false ∧ (phase = .program → p.record = none)
      ∧ (phase = .check ∨ phase = .mark → p.record = some snapshot)

/-! ### The whole part -/

/-- Before the load ends nothing has reached the part (R36, R91, R169): no character is taken and no edit waits. -/
def State.LoadingStill (s : State) : Prop :=
  ∀ begun, s.page.state = .loading begun →
    s.wtb.state = .unset ∧ s.eu.state = .idle ∧ (∀ p : Port, s.eu.slots[p] = [])
      ∧ ∀ p : Port, s.links[p].receiver = .stopped

/-- An edit waits in a holding slot only behind two occupied edit slots of its port (R27). -/
def State.HoldingFull (s : State) : Prop :=
  ∀ p : Port, s.links[p].holding.isSome = true → s.eu.slots[p].length = slotCount

/-- What holds between the blocks: an edit waits in a holding slot only behind two occupied slots (R27), the edit unit is
STORING exactly while a save runs (R74, R166), there is no live cue without a timebase (R8), the fade windows and the
phase watch see only counts the timebase gives, and LOADING is still. -/
structure State.Joined (s : State) : Prop where
  holding_full : s.HoldingFull
  storing_iff : s.eu.state = .storing ↔ ∃ phase snapshot, s.page.state = .saving phase snapshot
  unset_empty : s.wtb.state = .unset → s.sched.live = []
  loading : s.LoadingStill

/-- The laws of the whole part. -/
structure State.Lawful (s : State) : Prop where
  wtb : s.wtb.Lawful
  links : ∀ p : Port, s.links[p].Lawful
  eu : s.eu.Lawful
  sched : s.sched.Lawful s.wtb.w
  watch : ∀ p : Port, s.watch[p].Lawful
  ambient : s.ambient.Lawful
  dimmer : s.dimmer.Lawful
  page : s.page.Lawful
  joined : s.Joined

end Sys2Proof.Machine
end

