-- ==== Sys2Proof/Certificates/Slice0/Obligations.lean ====
section
/-! DEFINITION. The statements for the provers, from the rules of spec/, chapter by chapter. -/

open Sys2Proof Sys2Proof.Machine

/-! ### The machine -/

/-- A step takes the command at the front of the queue and runs it with the queue's rest. The queue is the model's own
(log 19). -/
def Obligations.StepRunsFrontCommand : Prop :=
  ∀ (i : Instr) (rest : List Instr) (s : State),
    s.pending = i :: rest → step s = exec i { s with pending := rest }

/-- Every command completes with a next state and leaves the queue alone. Over all states this is in part the model's
choice: a command whose event cannot happen in a state leaves it as it is once the starts before it are made (log 1,
log 10), and the queue is the model's own (log 19). -/
def Obligations.EveryCommandCompletes : Prop :=
  ∀ (i : Instr) (s : State), ∃ t, exec i s = .next t ∧ t.pending = s.pending

/-- On an empty queue (log 19), with no start due (log 10), time passes (R1, R3, R10, R161). A frame that has reached
its limit ends with a strobe. Else one base period passes, the model's step (log 3). It completes a division of the
prescale, and then the frame timer and an open interval count take a tick, or it does not; in UNSET the timebase
counts nothing. A running PWM counter counts once in eight base periods, and the count after its last is a wrap; a
wrap in the base period of a frame's last count comes before the strobe (log 25). -/
def Obligations.EmptyQueuePassesTime : Prop :=
  ∀ s : State, s.pending = [] → s.Settled →
    ∃ t, step s = .next t ∧ t.pending = []
      ∧ (s.wtb.state ≠ .unset → s.wtb.limit ≤ s.wtb.c → t.wtb.w = s.wtb.w + 1 ∧ t.wtb.c = 0
          ∧ t.dimmer.counter = s.dimmer.counter ∧ t.dimmer.divider = s.dimmer.divider)
      ∧ (s.wtb.state = .unset ∨ s.wtb.c < s.wtb.limit →
          t = { s with wtb := t.wtb, dimmer := t.dimmer }
          ∧ (s.wtb.state = .unset → t.wtb = s.wtb)
          ∧ (s.wtb.state ≠ .unset →
            if s.wtb.prescaleCount + 1 < s.wtb.division then
              t.wtb = { s.wtb with prescaleCount := s.wtb.prescaleCount + 1 }
            else
              t.wtb = { s.wtb with
                prescaleCount := 0, c := s.wtb.c + 1, interval := t.wtb.interval, relockRun := t.wtb.relockRun }
              ∧ (s.wtb.interval = none → t.wtb.interval = none ∧ t.wtb.relockRun = s.wtb.relockRun)
              ∧ ∀ k, s.wtb.interval = some k →
                if k + 1 ≤ s.wtb.n + s.wtb.n / 8 then
                  t.wtb.interval = some (k + 1) ∧ t.wtb.relockRun = s.wtb.relockRun
                else t.wtb.interval = none ∧ t.wtb.relockRun = 0)
          ∧ (s.dimmer.running = false → t.dimmer = s.dimmer)
          ∧ (s.dimmer.running = true →
            if s.dimmer.divider + 1 < 8 then t.dimmer = { s.dimmer with divider := s.dimmer.divider + 1 }
            else if s.dimmer.counter + 1 < s.dimmer.counterPeriod then
              t.dimmer = { s.dimmer with divider := 0, counter := s.dimmer.counter + 1 }
            else t.dimmer = { s.dimmer with
                divider := 0, counter := 0, counterPeriod := s.dimmer.p, zones := t.dimmer.zones }
              ∧ ∀ z : ZoneId, t.dimmer.zones[z] = { s.dimmer.zones[z] with active := s.dimmer.zones[z].buffer }))

/-! ### Strobes and the wall timebase (chapter 1) -/

/-- A strobe, whatever its cause (R4): FRAME pulses, W increases by one, the frame timer is cleared, a relock frame
ends, and the pending set is applied or the postscaler advances (R5, R17). Links, edit unit and settings page do not
respond. No start comes before the event (log 10). -/
def Obligations.StrobeAtTimebase : Prop :=
  ∀ (i : Instr) (s : State) (o : StrobeOrder), strobeOf i s = some o → s.NoStartBefore o.moment →
    ∃ t, exec i s = .next t
      ∧ t.wtb.frameHigh = true ∧ t.wtb.w = s.wtb.w + 1 ∧ t.wtb.c = 0 ∧ t.wtb.relockFrame = false
      ∧ t.wtb.glitch = s.wtb.glitch ∧ t.wtb.pending = none
      ∧ (s.wtb.pending = none →
          t.wtb.timebase = s.wtb.timebase ∧ t.wtb.common = s.wtb.common
          ∧ t.wtb.postscaler
            = if s.wtb.postscaler + 1 = s.wtb.common.sweepDivisor then 0 else s.wtb.postscaler + 1)
      ∧ (∀ set, s.wtb.pending = some set →
          t.wtb.timebase = some set.timebase ∧ t.wtb.common = set.common ∧ t.wtb.prescaleCount = 0
          ∧ t.wtb.postscaler = 0 ∧ t.wtb.relockRun = 0 ∧ t.wtb.interval = none)
      ∧ t.links = s.links ∧ t.eu = s.eu ∧ t.page = s.page ∧ t.pending = s.pending ∧ t.freeCount = s.freeCount

/-- The timebase state after a strobe that applies a pending set, cause by cause (R5, table; R12, R14, R19). -/
def Obligations.PendingSetChangesState : Prop :=
  ∀ (i : Instr) (s : State) (o : StrobeOrder) (set : WallSet), strobeOf i s = some o → s.wtb.pending = some set →
    ∃ t, exec i s = .next t
      ∧ (set.timebase.source = .internal → t.wtb.state = .free ∧ t.wtb.missRun = 0)
      ∧ (set.timebase.source = .reference →
          (s.wtb.state = .free ∨ s.wtb.state = .seeking → t.wtb.state = .seeking)
          ∧ (s.wtb.state = .holdover → t.wtb.state = .holdover)
          ∧ (∀ ticks, i = .referenceEdge ticks o → t.wtb.state = .locked ∧ t.wtb.missRun = 0)
          ∧ (i = .lateLimitStrobe o →
              if s.wtb.missRun + 1 < 3 then t.wtb.state = .locked ∧ t.wtb.missRun = s.wtb.missRun + 1
              else t.wtb.state = .holdover ∧ t.wtb.missRun = 0)
          ∧ (i = .relockFrameLimit o → t.wtb.state = .holdover ∧ t.wtb.missRun = 0))

/-- A frame that ends at its limit without a pending set (R3, R10, R12, R14, R15). One that runs free keeps the
timebase state and its runs, and its strobe does not touch the interval count, which has counted the ticks that the
frame lacked (log 2). A late limit adds to the miss run; the third leads to HOLDOVER, and so does the limit of a
relock frame; entry into HOLDOVER clears both runs and closes the interval count. -/
def Obligations.FrameEndsAtItsLimit : Prop :=
  ∀ (s : State) (o : StrobeOrder), s.wtb.pending = none →
    (s.wtb.state = .free ∨ s.wtb.state = .seeking ∨ s.wtb.state = .holdover →
      ∃ t, exec (.freeRunningStrobe o) s = .next t
        ∧ t.wtb.state = s.wtb.state ∧ t.wtb.missRun = s.wtb.missRun
        ∧ (s.wtb.interval = none → t.wtb.interval = none ∧ t.wtb.relockRun = s.wtb.relockRun)
        ∧ ∀ k, s.wtb.interval = some k →
            if k + (s.wtb.n - s.wtb.c) ≤ s.wtb.n + s.wtb.n / 8 then
              t.wtb.interval = some (k + (s.wtb.n - s.wtb.c)) ∧ t.wtb.relockRun = s.wtb.relockRun
            else t.wtb.interval = none ∧ t.wtb.relockRun = 0)
    ∧ (s.wtb.state = .locked → s.wtb.relockFrame = false →
      ∃ t, exec (.lateLimitStrobe o) s = .next t
        ∧ if s.wtb.missRun + 1 < 3 then t.wtb.state = .locked ∧ t.wtb.missRun = s.wtb.missRun + 1
          else t.wtb.state = .holdover ∧ t.wtb.missRun = 0 ∧ t.wtb.relockRun = 0 ∧ t.wtb.interval = none)
    ∧ (s.wtb.state = .locked → s.wtb.relockFrame = true →
      ∃ t, exec (.relockFrameLimit o) s = .next t
        ∧ t.wtb.state = .holdover ∧ t.wtb.missRun = 0 ∧ t.wtb.relockRun = 0 ∧ t.wtb.interval = none)

/-- A reference edge in a LOCKED frame (R12, R13), at the count c that the passing of the ticks gives (log 2): from
N/2 on it ends the frame, clears the miss run and keeps LOCKED; below N/2 it changes no run and ends nothing, and sets
GLITCH in an ordinary frame only. No start comes before the event (log 10). -/
def Obligations.EdgeInLockedFrame : Prop :=
  ∀ (s : State) (ticks c : Nat) (o : StrobeOrder), s.NoStartBefore o.moment → s.wtb.state = .locked →
    c = s.wtb.c + min ticks (s.wtb.limit - s.wtb.c) →
    (s.wtb.n / 2 ≤ c → s.wtb.pending = none →
      ∃ t, exec (.referenceEdge ticks o) s = .next t
        ∧ t.wtb.state = .locked ∧ t.wtb.missRun = 0 ∧ t.wtb.w = s.wtb.w + 1 ∧ t.wtb.c = 0
        ∧ t.wtb.relockFrame = false ∧ t.wtb.glitch = s.wtb.glitch)
    ∧ (c < s.wtb.n / 2 →
      ∃ t, exec (.referenceEdge ticks o) s = .next t ∧ t = { s with wtb := t.wtb }
        ∧ t.wtb.c = c ∧ t.wtb.glitch = (s.wtb.glitch || !s.wtb.relockFrame)
        ∧ t.wtb.state = .locked ∧ t.wtb.w = s.wtb.w ∧ t.wtb.missRun = s.wtb.missRun
        ∧ t.wtb.relockFrame = s.wtb.relockFrame ∧ t.wtb.timebase = s.wtb.timebase ∧ t.wtb.common = s.wtb.common
        ∧ t.wtb.pending = s.wtb.pending ∧ t.wtb.postscaler = s.wtb.postscaler
        ∧ t.wtb.frameHigh = s.wtb.frameHigh)

/-- A reference edge in SEEKING or HOLDOVER (R10, R11), after `ticks` ticks that fit in the frame in progress (log 2):
it opens a closed interval count; an open one is judged, and restarts at 0; the fourth good interval makes the frame
in progress the relock frame of LOCKED. The edge never ends the frame. No start comes before the event (log 10). -/
def Obligations.EdgeMeasuresInterval : Prop :=
  ∀ (s : State) (ticks : Nat) (o : StrobeOrder),
    s.NoStartBefore o.moment → s.wtb.state = .seeking ∨ s.wtb.state = .holdover →
    s.wtb.c + ticks ≤ s.wtb.n →
    ∃ t, exec (.referenceEdge ticks o) s = .next t ∧ t = { s with wtb := t.wtb }
      ∧ t.wtb.c = s.wtb.c + ticks ∧ t.wtb.w = s.wtb.w ∧ t.wtb.timebase = s.wtb.timebase ∧ t.wtb.common = s.wtb.common
      ∧ t.wtb.pending = s.wtb.pending ∧ t.wtb.postscaler = s.wtb.postscaler ∧ t.wtb.glitch = s.wtb.glitch
      ∧ t.wtb.frameHigh = s.wtb.frameHigh
      ∧ (s.wtb.interval = none →
          t.wtb.interval = some 0 ∧ t.wtb.relockRun = s.wtb.relockRun ∧ t.wtb.state = s.wtb.state)
      ∧ ∀ k, s.wtb.interval = some k →
          (k + ticks < s.wtb.n - s.wtb.n / 8 ∨ s.wtb.n + s.wtb.n / 8 < k + ticks →
            t.wtb.interval = some 0 ∧ t.wtb.relockRun = 0 ∧ t.wtb.state = s.wtb.state)
          ∧ (s.wtb.n - s.wtb.n / 8 ≤ k + ticks → k + ticks ≤ s.wtb.n + s.wtb.n / 8 →
            if s.wtb.relockRun + 1 < 4 then
              t.wtb.interval = some 0 ∧ t.wtb.relockRun = s.wtb.relockRun + 1 ∧ t.wtb.state = s.wtb.state
            else t.wtb.state = .locked ∧ t.wtb.relockFrame = true ∧ t.wtb.missRun = 0 ∧ t.wtb.relockRun = 0
              ∧ t.wtb.interval = none)

/-- The timebase's other events, with no start before them (log 10). Edges in UNSET and FREE are ignored (R8, R9): no
strobe, no flag, nothing measured; only the ticks have passed (log 2). An open interval count that passes N + N/8
closes and clears the relock run (R10), after the ticks that it lacks; where the frame ends before them it does not
pass in this frame, and nothing happens (log 1). The end of the FRAME pulse changes the output alone (R6). -/
def Obligations.QuietTimebaseEvents : Prop :=
  ∀ (s : State) (ticks : Nat) (o : StrobeOrder) (m : Moment), o.moment = m → s.NoStartBefore m →
    (s.wtb.state = .unset → exec (.referenceEdge ticks o) s = .next s)
    ∧ (s.wtb.state = .free → s.wtb.interval = none →
      ∃ t, exec (.referenceEdge ticks o) s = .next t
        ∧ t = { s with wtb := { s.wtb with c := t.wtb.c, prescaleCount := t.wtb.prescaleCount } }
        ∧ t.wtb.c = s.wtb.c + min ticks (s.wtb.n - s.wtb.c))
    ∧ (∀ k lacking, s.wtb.interval = some k → lacking = s.wtb.n + s.wtb.n / 8 + 1 - k →
      s.wtb.state = .seeking ∨ s.wtb.state = .holdover →
      (lacking ≤ s.wtb.n - s.wtb.c →
        ∃ t, exec (.intervalTooLong m) s = .next t
          ∧ t = { s with wtb := { s.wtb with
            c := s.wtb.c + lacking, prescaleCount := t.wtb.prescaleCount, relockRun := 0, interval := none } })
      ∧ (s.wtb.n - s.wtb.c < lacking → exec (.intervalTooLong m) s = .next s))
    ∧ exec (.framePulseEnd m) s = .next { s with wtb := { s.wtb with frameHigh := false } }

/-- W changes only by increasing by one at a strobe, and at a reset of the part (R7): every other command, and every
event that ends no frame, keeps it. -/
def Obligations.WChangesOnlyAtStrobes : Prop :=
  ∀ (i : Instr) (s t : State), exec i s = .next t → (∀ m, i ≠ .powerOnReset m ∧ i ≠ .pinReset m) →
    t.wtb.w = if (strobeOf i s).isSome then s.wtb.w + 1 else s.wtb.w

/-! ### Player links (chapter 2) -/

/-- Even parity over data bits and mark bit (R20): every character that the part sends is good, and a good character
with one data bit changed on the line is not. -/
def Obligations.ParityFindsOneChangedBit : Prop :=
  ∀ (first : Bool) (b : Byte) (i : Fin 8),
    goodChar (outgoing first b) = true
      ∧ goodChar { outgoing first b with data := b ^^^ (1#8 <<< i.val) } = false
      ∧ goodChar { outgoing first b with mark := !first } = false

/-- A bad character (R21): it is discarded with any partial message, each error sets its flag, and after a space stop
bit the receiver waits for mark. When RXD returns to mark, a receiver that awaits mark is ready for a start edge (R21,
R33), and a break detector that has recognised its break can recognise another (R32). No start comes before the event
(log 10). -/
def Obligations.BadCharacterAndReturnToMark : Prop :=
  ∀ (s : State) (p : Port) (m : Moment), s.NoStartBefore m →
    (∀ ch : LineChar, s.links[p].receiver = .ready → ¬ (parityOk ch = true ∧ ch.stopMark = true) →
      exec (.receivedCharacter p ch m) s = .next { s with
        links := s.links.set p { s.links[p] with
          rx := .hunting
          receiver := if ch.stopMark then .ready else .awaitingMark
          flags := { s.links[p].flags with
            parity := s.links[p].flags.parity || !parityOk ch
            framing := s.links[p].flags.framing || !ch.stopMark } } })
    ∧ ∃ t, exec (.returnToMark p m) s = .next t
      ∧ t = { s with links := s.links.set p { s.links[p] with
        receiver := t.links[p].receiver, detector := t.links[p].detector } }
      ∧ (s.links[p].receiver = .awaitingMark → t.links[p].receiver = .ready)
      ∧ (s.links[p].receiver ≠ .awaitingMark → t.links[p].receiver = s.links[p].receiver)
      ∧ (s.links[p].detector = .awaitingMark → t.links[p].detector = .measuring)
      ∧ (s.links[p].detector ≠ .awaitingMark → t.links[p].detector = s.links[p].detector)

/-- Good characters that complete no message, and characters that are not taken; no start is due (log 10). A mark
character (R22, R24) ends a message being assembled short with TRUNCATED; one of the eleven request kinds starts a new
message, every other code sets BAD_KIND and leaves the port in HUNTING. Any character while the receiver is stopped or
awaits mark (R21, R36), and a data character in HUNTING (R22), change nothing. A data character that does not complete
the message joins the assembly buffer, which keeps at most 43 (R23). -/
def Obligations.GoodCharacters : Prop :=
  ∀ (s : State) (p : Port) (m : Moment), s.NoStartBefore m →
    (∀ code : Byte, s.links[p].receiver = .ready →
      ∃ t, exec (.receivedCharacter p (outgoing true code) m) s = .next t
        ∧ t = { s with links := s.links.set p { s.links[p] with
          rx := if (16 ≤ code.toNat ∧ code.toNat ≤ 23) ∨ (32 ≤ code.toNat ∧ code.toNat ≤ 34)
            then .assembling [code] 1 else .hunting
          flags := { s.links[p].flags with
            truncated := s.links[p].flags.truncated || decide (s.links[p].rx ≠ .hunting)
            badKind := s.links[p].flags.badKind
              || !decide ((16 ≤ code.toNat ∧ code.toNat ≤ 23) ∨ (32 ≤ code.toNat ∧ code.toNat ≤ 34)) } } })
    ∧ (∀ ch, s.links[p].receiver ≠ .ready → exec (.receivedCharacter p ch m) s = .next s)
    ∧ (∀ b, s.links[p].receiver = .ready → s.links[p].rx = .hunting →
        exec (.receivedCharacter p (outgoing false b) m) s = .next s)
    ∧ ∀ b buffer count, s.links[p].receiver = .ready → s.links[p].rx = .assembling buffer count →
        messageLength ((buffer ++ [b]).take bufferCap) ≠ some (count + 1) → buffer.length ≤ bufferCap →
        exec (.receivedCharacter p (outgoing false b) m) s = .next { s with
          links := s.links.set p { s.links[p] with rx := .assembling ((buffer ++ [b]).take bufferCap) (count + 1) } }

/-- A transmitter starts a message whenever it is IDLE with CTS asserted and its composer owes a notice (R31). The
model makes each start a step of its own, a send command, and makes the starts that are due before every other event,
also before a reset of the part, and before a base period passes (log 10). An event that falls together with the one
before it comes before those starts: so a notice that the earlier one made owed can be withdrawn unsent (R90, R112,
R114). Only where CTS changes, the port's own start comes first at every moment (R31). Whether the strobe of a frame
that ends with no command waiting falls together with the event before it is a free value (log 5). After the starts
none is due, and each port that had one due is sending; they change what at most one send command a port changes, the
lowest port first. -/
def Obligations.StartsComeFirst : Prop :=
  ∀ s : State,
    (s.Settled ↔ ∀ p : Port, s.links[p].tx = .idle → s.links[p].cts = true →
      (∀ c ∈ s.sched.live, c.notices[p].owed = none) ∧ s.sched.aborts[p] = [] ∧ s.composers[p].stepOwed = false
        ∧ (∀ x ∈ s.eu.slots[p], x.isDone = false) ∧ s.composers[p].report = none)
    ∧ s.startDue.Settled ∧ (s.Settled → s.startDue = s)
    ∧ (∀ i : Instr, momentOf i = some .later → exec i s = exec i s.startDue)
    ∧ (∀ (i : Instr) (t : State) (p : Port) (kind : Byte) (rest : List Byte), momentOf i = some .together →
        (∀ level, i ≠ .ctsAsserted p level .together) → exec i s = .next t →
        t.links[p].tx = .sending (outgoing true kind) rest → s.links[p].tx = .sending (outgoing true kind) rest)
    ∧ (∀ (p : Port) (level : Bool), ∃ i, sendPort i = some p
        ∧ exec (.ctsAsserted p level .together) s = exec (.ctsAsserted p level .together) (runCommand s i)
        ∧ (runCommand s i).chosen p = none)
    ∧ (s.pending = [] → s.wtb.state = .unset ∨ s.wtb.c < s.wtb.limit → step s = step s.startDue)
    ∧ (s.pending = [] → s.wtb.state ≠ .unset → s.wtb.limit ≤ s.wtb.c →
        ∃ o u, (o.moment = .later → u = s.startDue) ∧ (o.moment = .together → u = s) ∧ step s = .next (u.endFrame o))
    ∧ (∀ p : Port, s.chosen p = none → s.startDue.links[p].tx = s.links[p].tx)
    ∧ (∀ p : Port, s.chosen p ≠ none →
        ∃ kind rest, s.startDue.links[p].tx = .sending (outgoing true kind) rest)
    ∧ ∃ sends : List Instr, sends.foldl runCommand s = s.startDue
      ∧ (∀ i ∈ sends, ∃ p : Port, sendPort i = some p ∧ s.chosen p ≠ none)
      ∧ (sends.filterMap sendPort).Pairwise (· < ·)

/-- A whole message sent in good characters to a port that hunts is delivered when its last character arrives, for
every length that R23 gives its kind, and not before; a CUE_PUT of more than six participants is delivered by its
first 43 characters. -/
def Obligations.WholeMessageIsDelivered : Prop :=
  ∀ (s : State) (p : Port) (code : Byte) (rest : List Byte),
    s.links[p].receiver = .ready → s.links[p].rx = .hunting →
    messageLength ((code :: rest).take bufferCap) = some (rest.length + 1) →
    (∀ k, 0 < k → k ≤ rest.length →
      ∃ buffer, ((rest.take (k - 1)).foldl (fun u b => u.receive p (outgoing false b))
        (s.receive p (outgoing true code))).links[p].rx = .assembling buffer k)
    ∧ rest.foldl (fun u b => u.receive p (outgoing false b)) (s.receive p (outgoing true code))
      = s.deliver p ((code :: rest).take bufferCap)

/-- An edit that completes (R25, R26, R27) by the character `b` that the command carries (log 8). Behind a waiting
edit it is lost with OVERRUN. With both edit slots occupied it waits in the holding slot. With an EMPTY slot it is
QUEUED there, as the port's newest, while the edit unit is busy; an IDLE edit unit with nothing else QUEUED takes it
at once (R74, R75). No start comes before the event (log 10). -/
def Obligations.EditArrives : Prop :=
  ∀ (s : State) (p : Port) (b : Byte) (buffer m : List Byte) (count : Nat) (k : RequestKind) (mo : Moment),
    s.NoStartBefore mo → s.links[p].receiver = .ready → s.links[p].rx = .assembling buffer count →
    m = keepCharacter buffer b → messageLength m = some (count + 1) → Message.kind m = some k → k.isEdit = true →
    ∃ t, exec (.editArrival p b mo) s = .next t ∧ exec (.receivedCharacter p (outgoing false b) mo) s = .next t
      ∧ (s.links[p].holding.isSome = true → t = { s with links := s.links.set p { s.links[p] with
          rx := .hunting, flags := { s.links[p].flags with overrun := true } } })
      ∧ (s.links[p].holding = none → s.eu.slots[p].length = 2 → t = { s with links := s.links.set p { s.links[p] with
          rx := .hunting, holding := some m } })
      ∧ (s.links[p].holding = none → s.eu.slots[p].length < 2 →
          t.links = s.links.set p { s.links[p] with rx := .hunting }
          ∧ t.sched = s.sched ∧ t.wtb = s.wtb ∧ t.watch = s.watch ∧ t.ambient = s.ambient ∧ t.dimmer = s.dimmer
          ∧ t.composers = s.composers ∧ t.eu.permits = s.eu.permits ∧ t.eu.lock = s.eu.lock
          ∧ (s.eu.state ≠ .idle → t.page = s.page ∧ t.eu = { s.eu with slots := t.eu.slots }
              ∧ (∀ q : Port, q ≠ p → t.eu.slots[q] = s.eu.slots[q])
              ∧ ∃ name, t.eu.slots[p] = s.eu.slots[p] ++ [⟨name, m, .queued⟩])
          ∧ (s.eu.Lawful → s.eu.state = .idle →
              (∀ q : Port, q ≠ p → t.eu.slots[q] = s.eu.slots[q])
              ∧ (∃ name, t.eu.slots[p] = s.eu.slots[p] ++ [⟨name, m, .active false⟩])
              ∧ t.eu.pointer = p + 1
              ∧ if k = .save ∧ s.eu.permits[p].rights.save = true then
                  t.eu.state = .storing ∧ t.page = s.page.beginSave s.settings
                else t.eu.state = .working ∧ t.page = s.page))

/-- A QUERY that completes is taken at once: the composer of its port owes a REPORT with the subject and index
received, in place of an owed one (R122; the command carries the last character, log 8); behind a waiting edit it is
lost with OVERRUN (R25). No start comes before the event (log 10): the REPORT itself goes out in a step of its own. -/
def Obligations.QueryArrives : Prop :=
  ∀ (s : State) (p : Port) (subject index : Byte) (m : Moment),
    s.NoStartBefore m → s.links[p].receiver = .ready → s.links[p].rx = .assembling [34, subject] 2 →
    exec (.receivedCharacter p (outgoing false index) m) s = exec (.query p index m) s
    ∧ (s.links[p].holding = none → exec (.query p index m) s = .next { s with
        links := s.links.set p { s.links[p] with rx := .hunting }
        composers := s.composers.set p { s.composers[p] with report := some (subject, index) } })
    ∧ (s.links[p].holding.isSome = true → exec (.query p index m) s = .next { s with
        links := s.links.set p { s.links[p] with
          rx := .hunting, flags := { s.links[p].flags with overrun := true } } })

/-- The transmitter between characters (R30): at the end of a stop bit the next character starts if CTS is asserted,
else TXD rests at mark until CTS is asserted; CTS in the middle of a character changes nothing else; after the last
character, and after the character in progress of an abandoned message (R33), the transmitter is IDLE. The message
that R31 starts when CTS is asserted on an IDLE transmitter, or at the end of a message, is a step of its own, the
next one (log 10): so CTS on an IDLE transmitter that sends nothing now changes the level alone. No start comes before
the event. -/
def Obligations.TransmitterFollowsCts : Prop :=
  ∀ (s : State) (p : Port) (current : LineChar) (b : Byte) (rest : List Byte) (level : Bool) (m : Moment),
    s.NoStartBefore m →
    (s.links[p].tx = .sending current (b :: rest) →
      exec (.stopBitEnd p m) s = .next { s with links := s.links.set p { s.links[p] with
        tx := if s.links[p].cts then .sending (outgoing false b) rest else .waiting (b :: rest) } }
      ∧ exec (.ctsAsserted p level m) s = .next { s with links := s.links.set p { s.links[p] with cts := level } })
    ∧ (s.links[p].tx = .waiting (b :: rest) →
        exec (.ctsAsserted p true m) s = .next { s with links := s.links.set p { s.links[p] with
          cts := true, tx := .sending (outgoing false b) rest } })
    ∧ (s.links[p].tx = .idle → s.chosen p = none →
        exec (.ctsAsserted p level m) s = .next { s with links := s.links.set p { s.links[p] with cts := level } })
    ∧ (s.links[p].tx = .sending current [] →
        exec (.messageEnd p m) s = .next { s with links := s.links.set p { s.links[p] with tx := .idle } })
    ∧ (s.links[p].tx = .abandoned current →
        exec (.stopBitEnd p m) s = .next { s with links := s.links.set p { s.links[p] with tx := .idle } })

/-- A break resets its port (R32, R33): assembly, holding slot and flags are cleared, receiver and detector await
mark, RTR is asserted, and the message being sent is abandoned after its current character. The port's DONE and QUEUED
slots are freed and its ACTIVE edit goes on without a result (R89); what its composer owes is cleared (R128), before
the arming unit (R113) and the phase watch (R138) respond. Other ports, and the blocks that R34 excepts, keep their
state. No start comes before the event (log 10). -/
def Obligations.BreakResetsPort : Prop :=
  ∀ (s : State) (p : Port) (m : Moment), s.NoStartBefore m → s.links[p].detector = .measuring →
    ∃ t, exec (.lineBreak p m) s = .next t
      ∧ t.links[p].rx = .hunting ∧ t.links[p].receiver = .awaitingMark ∧ t.links[p].detector = .awaitingMark
      ∧ t.links[p].holding = none ∧ t.links[p].flags = .clear ∧ t.links[p].rtr = true
      ∧ (∀ c rest, s.links[p].tx = .sending c rest → rest ≠ [] → t.links[p].tx = .abandoned c)
      ∧ (∀ c, s.links[p].tx = .sending c [] → t.links[p].tx = .sending c [])
      ∧ (∀ rest, s.links[p].tx = .waiting rest → t.links[p].tx = .idle)
      ∧ (∀ q : Port, q ≠ p → t.links[q] = s.links[q] ∧ t.eu.slots[q] = s.eu.slots[q]
          ∧ t.composers[q] = s.composers[q] ∧ t.watch[q] = s.watch[q] ∧ t.sched.aborts[q] = s.sched.aborts[q])
      ∧ t.eu.slots[p]
        = (s.eu.slots[p].filter EditSlot.isActive).map (fun x => { x with status := .active true })
      ∧ t.eu.state = s.eu.state ∧ t.eu.pointer = s.eu.pointer ∧ t.eu.permits = s.eu.permits ∧ t.eu.lock = s.eu.lock
      ∧ t.composers[p].report = none
      ∧ t.composers[p].stepOwed = decide (t.watch[p].status ≠ s.watch[p].status)
      ∧ t.watch[p] = { s.watch[p] with
          prescaler := 0, lastOffset := 0, withinRun := 0, beyondRun := 0, frames := 0
          status := if s.watch[p].settings.mode = .unused then .unused else .inStep }
      ∧ t.sched.aborts[p] = [] ∧ t.sched.take = s.sched.take ∧ t.sched.outcomes = s.sched.outcomes
      ∧ t.wtb = s.wtb ∧ t.ambient = s.ambient ∧ t.dimmer = s.dimmer ∧ t.page = s.page
      ∧ t.sched.live.length = s.sched.live.length

/-- What a port reset does to one live cue (R113, R128): the owed notice is withdrawn and the sent-history kept; a
participant of an ASKING cue is asked again; an armed port of an ARMED or TAKEN cue is owed its COMMIT again, and an
excluded one its ABORT. Where an ABORT has been sent nothing is owed again (R117). Nothing else of the cue changes. No
start is due (log 10). -/
def Obligations.PortResetOfCue : Prop :=
  ∀ (s : State) (p : Port) (c : Cue) (m : Moment),
    s.NoStartBefore m → s.links[p].detector = .measuring → c ∈ s.sched.live →
    ∃ t d, exec (.lineBreak p m) s = .next t ∧ d ∈ t.sched.live
      ∧ d = { c with participants := d.participants, notices := d.notices }
      ∧ d.participants.map (fun x => (x.port, x.token)) = c.participants.map (fun x => (x.port, x.token))
      ∧ d.notices[p].askedSent = c.notices[p].askedSent ∧ d.notices[p].abortSent = c.notices[p].abortSent
      ∧ (∀ q : Port, q ≠ p → d.notices[q] = c.notices[q])
      ∧ (c.notices[p].abortSent = true → d.notices[p].owed = none)
      ∧ (c.state = .asking → c.hasPort p = true →
          (∀ x ∈ d.participants, x.port = p → x.readiness = .asked)
          ∧ (∀ x ∈ c.participants, x.port ≠ p → x ∈ d.participants)
          ∧ (c.notices[p].abortSent = false → d.notices[p].owed = some .prepare))
      ∧ (c.state = .armed ∨ c.state = .taken → c.hasPort p = true →
          d.participants = c.participants
          ∧ (c.notices[p].abortSent = false →
              d.notices[p].owed
                = if inMask c.armed p then some .commit else some (.abort .excluded)))
      ∧ (c.state = .waiting ∨ c.hasPort p = false →
          d.participants = c.participants ∧ d.notices[p].owed = none)

/-! ### Arming and take (chapters 4 and 6) -/

/-- An answer of a participant of an ASKING cue, taken when its last character arrives (R96; log 8): a READY on the
participant's own token makes the entry READY, on another token REFUSED with reason 0; an UNREADY makes it REFUSED
with its reason. Nothing else of the part changes. No start comes before the event (log 10). -/
def Obligations.AnswerIsTaken : Prop :=
  ∀ (s : State) (p : Port) (c : Cue) (x : Participant) (high low reason : Byte) (m : Moment),
    s.NoStartBefore m → (s.sched.live.map (·.id)).Nodup → c ∈ s.sched.live → c.state = .asking →
    (c.participants.map (·.port)).Nodup → x ∈ c.participants → x.port = p →
    s.links[p].receiver = .ready → s.links[p].holding = none →
    (s.links[p].rx = .assembling [32, c.id, high] 3 →
      exec (.receivedCharacter p (outgoing false low) m) s = exec (.ready p low m) s
      ∧ exec (.ready p low m) s = .next { s with
        links := s.links.set p { s.links[p] with rx := .hunting }
        sched := { s.sched with live := s.sched.live.map fun d => if d.id = c.id then
          { d with participants := d.participants.map fun y => if y.port = p then
            { y with readiness := if x.token = BitVec.ofNat 16 (256 * high.toNat + low.toNat) then .ready
                else .refused 0 } else y } else d } })
    ∧ (s.links[p].rx = .assembling [33, c.id] 2 →
      exec (.receivedCharacter p (outgoing false reason) m) s = exec (.unready p reason m) s
      ∧ exec (.unready p reason m) s = .next { s with
        links := s.links.set p { s.links[p] with rx := .hunting }
        sched := { s.sched with live := s.sched.live.map fun d => if d.id = c.id then
          { d with participants := d.participants.map fun y => if y.port = p then
            { y with readiness := .refused reason } else y } else d } })

/-- An answer that is not taken is discarded (R98): no cue changes, and STRAY is set on the arrival port unless the
answer comes from a participant of an ARMED cue. No start comes before the event (log 10). -/
def Obligations.AnswerIsDiscarded : Prop :=
  ∀ (s : State) (p : Port) (id high last : Byte) (i : Instr) (m : Moment),
    s.NoStartBefore m → (s.sched.live.map (·.id)).Nodup →
    (¬ ∃ c ∈ s.sched.live, c.id = id ∧ c.state = .asking ∧ c.hasPort p = true) →
    s.links[p].receiver = .ready → s.links[p].holding = none →
    (s.links[p].rx = .assembling [32, id, high] 3 ∧ i = .ready p last m
      ∨ s.links[p].rx = .assembling [33, id] 2 ∧ i = .unready p last m) →
    ∃ t, exec i s = .next t
      ∧ t = { s with links := s.links.set p { s.links[p] with
        rx := .hunting, flags := { s.links[p].flags with stray := t.links[p].flags.stray } } }
      ∧ ((∃ c ∈ s.sched.live, c.id = id ∧ c.state = .armed ∧ c.hasPort p = true) →
          t.links[p].flags.stray = s.links[p].flags.stray)
      ∧ ((¬ ∃ c ∈ s.sched.live, c.id = id ∧ c.state = .armed ∧ c.hasPort p = true) →
          t.links[p].flags.stray = true)

/-- A strobe at a live cue (R94, R95, R99, R100). A WAITING cue whose fire minus W becomes its lead asks every
participant and owes each a PREPARE. An ASKING cue at its deadline, every participant READY on a port that is IN_STEP
or UNUSED, is ARMED with all its ports, each owed a COMMIT; the order operand (log 4) says, port by port, whether this
deadline reads the step status before or after the phase watch takes the strobe. A cue whose fire minus W calls for no
transition stays in the table as it is. No start comes before the event (log 10). -/
def Obligations.StrobeMovesCues : Prop :=
  ∀ (i : Instr) (s : State) (o : StrobeOrder) (c : Cue) (earlier later : List Cue), strobeOf i s = some o →
    s.NoStartBefore o.moment → (s.sched.live.map (·.id)).Nodup → s.sched.live = earlier ++ c :: later →
    ∃ t, exec i s = .next t
      ∧ (c.state = .waiting → c.InState → c.ahead (s.wtb.w + 1) = c.lead →
          ∃ d ∈ t.sched.live, d = { c with
              state := .asking
              participants := c.participants.map fun x => { x with readiness := .asked }
              notices := d.notices }
            ∧ ∀ p : Port, d.notices[p] = ⟨if c.hasPort p then some .prepare else none, false, false⟩)
      ∧ (c.state = .asking → c.ahead (s.wtb.w + 1) = c.margin →
          (∀ x ∈ c.participants, x.readiness = .ready ∧
            (s.statusAt o earlier.length x.port = .inStep ∨ s.statusAt o earlier.length x.port = .unused)) →
          ∃ d ∈ t.sched.live,
            d = { c with state := .armed, armed := d.armed, notices := d.notices }
            ∧ (∀ p : Port, inMask d.armed p = c.hasPort p)
            ∧ (∀ p : Port, c.hasPort p = false → d.notices[p] = c.notices[p])
            ∧ ∀ p : Port, c.hasPort p = true → c.notices[p].abortSent = false →
                (∀ r, c.notices[p].owed ≠ some (.abort r)) →
                d.notices[p] = { c.notices[p] with owed := some .commit })
      ∧ ((match c.state with
          | .waiting => c.ahead (s.wtb.w + 1) ≠ c.lead
          | .asking => c.ahead (s.wtb.w + 1) ≠ c.margin
          | .armed => c.ahead (s.wtb.w + 1) ≠ 0
          | .taken => c.ahead (s.wtb.w + 1) ≠ -(c.li : Int)) → c ∈ t.sched.live)

/-- A deadline at which some participant is not good (R99 to R103), at a strobe, on the table `before` as the cues
examined before it left it: PARTIAL arms the good ones and excludes the others, a deferral moves the fire frame and
asks again, and each other decision retires the cue with its outcome and an ABORT duty to every participant, NOT_READY
or DEFER_CLASH, which a port takes unless it has been sent an ABORT or its PREPARE was never sent (R119). The order
operand (log 4) says which step statuses the deadline reads. No start comes before the event (log 10). -/
def Obligations.FailedDeadline : Prop :=
  ∀ (i : Instr) (s : State) (o : StrobeOrder) (c : Cue) (earlier later : List Cue) (good : Participant → Prop),
    strobeOf i s = some o →
    s.NoStartBefore o.moment → (s.sched.live.map (·.id)).Nodup → s.sched.live = earlier ++ c :: later →
    c.state = .asking → c.ahead (s.wtb.w + 1) = c.margin → c.armed = 0 →
    (∀ x, good x ↔ x.readiness = .ready ∧
      (s.statusAt o earlier.length x.port = .inStep ∨ s.statusAt o earlier.length x.port = .unused)) →
    ¬ (∀ x ∈ c.participants, good x) →
    ∃ (t : State) (before after : Schedule), exec i s = .next t
      ∧ before = s.examined o earlier 0 s.sched.takeLow ∧ t.sched = s.examined o later (earlier.length + 1) after
      ∧ c ∈ before.live ∧ (before.live.map (·.id)).Nodup ∧ after.take = before.take
      ∧ (c.policy = .partialTake → (∃ x ∈ c.participants, good x) →
        ∃ d, (∀ e, e ∈ after.live ↔ e = d ∨ e ∈ before.live ∧ e.id ≠ c.id)
          ∧ d = { c with state := .armed, armed := d.armed, notices := d.notices }
          ∧ (∀ p : Port, inMask d.armed p = true ↔ ∃ x ∈ c.participants, x.port = p ∧ good x)
          ∧ (∀ p : Port, d.notices[p] = { c.notices[p] with owed := d.notices[p].owed })
          ∧ (∀ p : Port, c.hasPort p = false ∨ c.notices[p].abortSent = true → d.notices[p] = c.notices[p])
          ∧ (∀ p : Port, c.hasPort p = true → c.notices[p].abortSent = false →
            (∀ r, c.notices[p].owed ≠ some (.abort r)) →
            d.notices[p].owed = if inMask d.armed p then some .commit
              else if c.notices[p].owed = some .prepare ∧ c.notices[p].askedSent = false then none
              else some (.abort .excluded))
          ∧ after.outcomes = before.outcomes ∧ after.aborts = before.aborts)
      ∧ (c.policy = .defer → c.deferralsUsed < c.maxDeferrals →
        (∀ e ∈ before.live, e.id ≠ c.id → e.fire = c.fire + BitVec.ofNat 32 c.deferStep →
          ∀ x ∈ e.participants, c.hasPort x.port = false) →
        ∃ d, (∀ e, e ∈ after.live ↔ e = d ∨ e ∈ before.live ∧ e.id ≠ c.id)
          ∧ d = { c with
            fire := c.fire + BitVec.ofNat 32 c.deferStep
            deferralsUsed := c.deferralsUsed + 1
            participants := c.participants.map fun x =>
              { x with readiness := if x.readiness = .ready then .ready else .asked }
            notices := d.notices }
          ∧ (∀ p : Port, d.notices[p] = { c.notices[p] with owed := d.notices[p].owed })
          ∧ (∀ p : Port, c.hasPort p = false ∨ c.notices[p].abortSent = true → d.notices[p] = c.notices[p])
          ∧ (∀ p : Port, c.hasPort p = true → c.notices[p].abortSent = false →
            (∀ r, c.notices[p].owed ≠ some (.abort r)) →
            d.notices[p].owed = if c.notices[p].owed = some .prepare then some .prepare else some .defer)
          ∧ after.outcomes = before.outcomes ∧ after.aborts = before.aborts)
      ∧ ∀ (outcome : CueOutcome) (reason : AbortReason),
        (c.policy = .defer ∧ c.deferralsUsed < c.maxDeferrals
            ∧ (∃ e ∈ before.live, e.id ≠ c.id ∧ e.fire = c.fire + BitVec.ofNat 32 c.deferStep
              ∧ ∃ x ∈ e.participants, c.hasPort x.port = true)
            ∧ outcome = .deferClash ∧ reason = .deferClash
          ∨ (c.policy = .cancel ∨ c.policy = .defer ∧ ¬ c.deferralsUsed < c.maxDeferrals
              ∨ c.policy = .partialTake ∧ ∀ x ∈ c.participants, ¬ good x)
            ∧ outcome = .notReady ∧ reason = .notReady) →
        after.live = before.live.filter (fun e => e.id != c.id)
        ∧ after.outcomes
          = (before.outcomes ++ [(⟨c.id, c.fire, outcome, c.deferralsUsed, 0, 0, .none⟩ : OutcomeEntry)]).drop
            (before.outcomes.length + 1 - 16)
        ∧ ∀ p : Port,
          (c.hasPort p = true → c.notices[p].abortSent = false →
            ¬ (c.notices[p].owed = some .prepare ∧ c.notices[p].askedSent = false) →
            after.aborts[p] = (before.aborts[p] ++ [(⟨c.id, reason⟩ : RetiredAbort)]).drop
              (before.aborts[p].length + 1 - 16))
          ∧ (c.hasPort p = true → (c.notices[p].abortSent = true
              ∨ c.notices[p].owed = some .prepare ∧ c.notices[p].askedSent = false) →
            after.aborts[p] = before.aborts[p])
          ∧ (c.hasPort p = false → c.notices[p].owed = none → after.aborts[p] = before.aborts[p])

/-- A take line is asserted in exactly the frames whose strobe takes a cue with that port armed (R105, R106), whatever
other cues the strobe examines. A DIM cue that is taken is TAKEN and leaves no outcome yet. A CUT cue retires at its
take, and a TAKEN cue at the strobe at which fire minus W becomes -Li (R107, R108), on the table `before` as the cues
examined before it left it: with outcome TAKEN where every participant is armed and TAKEN_PARTIAL where one is not,
its armed mask, the armed ports whose COMMIT is unsent, and no ABORT duty; the repetition is that of
RetirementAndRepetition (R110). Between strobes only a reset of the part changes a take line. No start is due at the
strobe (log 10). -/
def Obligations.TakeLinesFollowTakes : Prop :=
  ∀ (i : Instr) (s : State), (s.sched.live.map (·.id)).Nodup →
    (∀ o, strobeOf i s = some o → s.NoStartBefore o.moment →
      ∃ t, exec i s = .next t
        ∧ (∀ p : Port, t.sched.take[p] = true ↔
            ∃ c ∈ s.sched.live, c.state = .armed ∧ c.ahead (s.wtb.w + 1) = 0 ∧ inMask c.armed p = true)
        ∧ ∀ (c : Cue) (earlier later : List Cue), s.sched.live = earlier ++ c :: later →
          ∃ before after : Schedule, before = s.examined o earlier 0 s.sched.takeLow
            ∧ t.sched = s.examined o later (earlier.length + 1) after ∧ c ∈ before.live
            ∧ (c.state = .armed → c.ahead (s.wtb.w + 1) = 0 → c.transition = .dim →
                { c with state := .taken } ∈ t.sched.live
                ∧ after.outcomes = before.outcomes ∧ after.aborts = before.aborts)
            ∧ ∀ outcome : CueOutcome,
              (c.state = .armed ∧ c.ahead (s.wtb.w + 1) = 0 ∧ c.transition = .cut
                ∨ c.state = .taken ∧ c.ahead (s.wtb.w + 1) = -(c.li : Int)) →
              (if ∀ p : Port, inMask c.armed p = c.hasPort p then outcome = .taken else outcome = .takenPartial) →
              after = Schedule.retire (s.wtb.w + 1) c outcome (fun _ => none) { before with take := after.take }
              ∧ (c.repeatInterval = none → ∀ d ∈ t.sched.live, d.id ≠ c.id)
              ∧ (∃ e : OutcomeEntry,
                after.outcomes = (before.outcomes ++ [e]).drop (before.outcomes.length + 1 - 16)
                ∧ e.id = c.id ∧ e.fire = c.fire ∧ e.outcome = outcome ∧ e.deferralsUsed = c.deferralsUsed
                ∧ e.armed = c.armed ∧ (c.repeatInterval = none → e.continuation = .none)
                ∧ ∀ p : Port, inMask e.unsent p = true ↔ inMask c.armed p = true ∧ c.notices[p].owed = some .commit)
              ∧ ∀ p : Port, (∀ r, c.notices[p].owed ≠ some (.abort r)) → after.aborts[p] = before.aborts[p])
    ∧ (strobeOf i s = none → (∀ m, i ≠ .powerOnReset m ∧ i ≠ .pinReset m) →
        ∃ t, exec i s = .next t ∧ t.sched.take = s.sched.take)

/-- The retirement of a live cue (R66 to R68, R108 to R110): its outcome entry with the armed ports whose COMMIT was
unsent, its record out of the table, and for a taken cue the repetition: a new instance of the same cue in the freed
place, or the reason why there is none. -/
def Obligations.RetirementAndRepetition : Prop :=
  ∀ (w : Frame) (c : Cue) (outcome : CueOutcome) (duty : Port → Option AbortReason) (sch : Schedule),
    ∃ e : OutcomeEntry,
      (sch.retire w c outcome duty).outcomes = (sch.outcomes ++ [e]).drop (sch.outcomes.length + 1 - 16)
      ∧ (sch.retire w c outcome duty).take = sch.take
      ∧ e.id = c.id ∧ e.fire = c.fire ∧ e.outcome = outcome ∧ e.deferralsUsed = c.deferralsUsed ∧ e.armed = c.armed
      ∧ (∀ p : Port, inMask e.unsent p = true ↔ inMask c.armed p = true ∧ c.notices[p].owed = some .commit)
      ∧ (∀ d ∈ sch.live, d.id ≠ c.id → d ∈ (sch.retire w c outcome duty).live)
      ∧ ((∀ f, e.continuation ≠ .rescheduled f) →
          (sch.retire w c outcome duty).live = sch.live.filter fun d => d.id != c.id)
      ∧ ((outcome ≠ .taken ∧ outcome ≠ .takenPartial) ∨ c.repeatInterval = none → e.continuation = .none)
      ∧ ∀ interval, c.repeatInterval = some interval → (outcome = .taken ∨ outcome = .takenPartial) →
          (c.repeatCount = 0 → e.continuation = .endedCount)
          ∧ (c.repeatCount ≠ 0 →
              (∃ d ∈ sch.live, d.id ≠ c.id ∧ d.fire = c.fire + BitVec.ofNat 32 interval
                ∧ ∃ x ∈ d.participants, c.hasPort x.port = true) → e.continuation = .endedClash)
          ∧ (c.repeatCount ≠ 0 →
              (∀ d ∈ sch.live, d.id ≠ c.id → d.fire = c.fire + BitVec.ofNat 32 interval →
                ∀ x ∈ d.participants, c.hasPort x.port = false) →
              e.continuation = .rescheduled (c.fire + BitVec.ofNat 32 interval)
              ∧ ∃ n ∈ (sch.retire w c outcome duty).live, n = { c with
                  fire := c.fire + BitVec.ofNat 32 interval
                  deferralsUsed := 0
                  repeatCount := if c.repeatCount = 65535 then 65535 else c.repeatCount - 1
                  participants := n.participants
                  armed := 0
                  state := if frameDiff (c.fire + BitVec.ofNat 32 interval) w > c.lead then .waiting else .asking
                  notices := n.notices }
                ∧ n.participants = c.participants.map (fun x => { x with
                    readiness := if n.state = .waiting then .notAsked else .asked })
                ∧ ∀ p : Port, n.notices[p]
                    = ⟨if n.state = .asking ∧ c.hasPort p = true then some .prepare else none, false, false⟩)

/-! ### Schedule edits (chapters 4 and 5) -/

/-- The arbiter (R74, R75, R88): an IDLE edit unit takes the oldest QUEUED slot of the first port, from the
round-robin pointer on, that has one, and the pointer moves past that port; it is STORING for a SAVE of a port with
the SAVE right, whose save begins, and WORKING for every other edit. With no head, and while it is not IDLE, nothing
changes. -/
def Obligations.ArbiterServesRoundRobin : Prop :=
  ∀ (s : State) (k : Fin 6) (p : Port) (x : EditSlot) (before after : List EditSlot),
    ((s.eu.state ≠ .idle ∨ ∀ q : Port, ∀ y ∈ s.eu.slots[q], y.status ≠ .queued) → s.arbitrate = s)
    ∧ (s.eu.state = .idle → p = s.eu.pointer + k →
        (∀ j : Fin 6, j < k → ∀ y ∈ s.eu.slots[s.eu.pointer + j], y.status ≠ .queued) →
        s.eu.slots[p] = before ++ x :: after → x.status = .queued → (∀ y ∈ before, y.status ≠ .queued) →
        s.arbitrate = { s with
          eu := { s.eu with
            slots := s.eu.slots.set p (before ++ { x with status := .active false } :: after)
            pointer := p + 1
            state := if Message.kind x.edit = some .save ∧ s.eu.permits[p].rights.save = true then .storing
              else .working }
          page := if Message.kind x.edit = some .save ∧ s.eu.permits[p].rights.save = true then
            { s.page with state := .saving .erase s.settings, marker := false } else s.page })

/-- What every completion does to its slot (R27, R73, R74, R89): the ACTIVE slot is DONE with the outcome, or EMPTY
when it is orphaned, and then a waiting edit of the port moves in as QUEUED; the unit is IDLE again and takes the next
edit as the arbiter decides. The blocks that hold no edits keep their state. -/
def Obligations.CompletionSettlesSlot : Prop :=
  ∀ (s : State) (p : Port) (x : EditSlot) (before after : List EditSlot) (outcome : EditOutcome),
    s.eu.Lawful → s.HoldingFull → s.eu.slots[p] = before ++ x :: after →
    (x.status = .active false →
      s.finishEdit p outcome = State.arbitrate { s with eu := { s.eu with
        state := .idle
        slots := s.eu.slots.set p (before ++ { x with status := .done outcome } :: after) } })
    ∧ (x.status = .active true → s.links[p].holding = none →
      s.finishEdit p outcome = State.arbitrate { s with eu := { s.eu with
        state := .idle, slots := s.eu.slots.set p (before ++ after) } })
    ∧ (∀ m, x.status = .active true → s.links[p].holding = some m →
      ∃ name, s.finishEdit p outcome = State.arbitrate { s with
        links := s.links.set p { s.links[p] with holding := none }
        eu := { s.eu with
          state := .idle, slots := s.eu.slots.set p (before ++ after ++ [⟨name, m, .queued⟩]) } })

/-- The timing fields of a put as stored (R57): the three steps, and what the stored values then satisfy. -/
def Obligations.TimingFieldsAsStored : Prop :=
  ∀ (m : Message) (tr : Transition) (policy : Policy) (c : Cue), c = m.cueOf tr policy →
    c.transition = tr
    ∧ c.lo = (if m.num 9 = 0 then 1 else if 32 < m.num 9 then 32 else m.num 9)
    ∧ c.li = (if m.num 10 = 0 then 1 else if 32 < m.num 10 then 32 else m.num 10)
    ∧ (∃ step2 step3 : Nat,
        step2 = max (m.num2 13) (match tr with | .dim => c.lo + 1 | .cut => 1)
        ∧ step3 = max (m.num2 11) (step2 + 1)
        ∧ c.lead = (if 4095 < step3 then 4095 else step3)
        ∧ c.margin = if c.lead ≤ step2 then 4094 else step2)
    ∧ 1 ≤ c.lo ∧ c.lo ≤ 32 ∧ 1 ≤ c.li ∧ c.li ≤ 32
    ∧ 1 ≤ c.margin ∧ c.margin ≤ 4094 ∧ (tr = .dim → c.lo + 1 ≤ c.margin)
    ∧ 2 ≤ c.lead ∧ c.lead ≤ 4095 ∧ c.margin < c.lead

/-- The deferral and repeat fields of a put as stored, and its participants (R55, R58, R61). -/
def Obligations.OtherFieldsAsStored : Prop :=
  ∀ (m : Message) (tr : Transition) (policy : Policy) (c : Cue), c = m.cueOf tr policy →
    c.id = m.char 3 ∧ c.fire.toNat = m.num4 4 ∧ c.policy = policy
    ∧ c.deferStep = (if m.num2 16 = 0 then 1 else m.num2 16)
    ∧ c.maxDeferrals = (if 7 < m.num 18 then 7 else m.num 18) ∧ c.deferralsUsed = 0
    ∧ c.repeatInterval = (if m.num4 19 = 0 then none else some (m.num4 19)) ∧ c.repeatCount = m.num2 23
    ∧ c.armed = 0
    ∧ (m.num 25 ≤ 6 → (∀ k, k < m.num 25 → m.num (26 + 3 * k) ≤ 5) →
        c.participants.length = m.num 25
        ∧ ∀ k, k < m.num 25 → ∃ x, c.participants[k]? = some x ∧ x.port.val = m.num (26 + 3 * k)
          ∧ x.token.toNat = m.num2 (27 + 3 * k) ∧ x.readiness = .notAsked)

/-- The completion of a CUE_PUT (R76, R79, R80): the first of the seven checks that fails gives the outcome and
nothing else changes; a put that passes all seven is stored with its entry test. No start comes before the event (log
10), and the completion acts on the ACTIVE edit (log 11). -/
def Obligations.CuePutChecks : Prop :=
  ∀ (s : State) (p : Port) (x : EditSlot) (m : Moment),
    s.NoStartBefore m → s.eu.state = .working → s.eu.active = some (p, x) →
    Message.kind x.edit = some .cuePut → (s.sched.live.map (·.id)).Nodup →
    ∃ t, exec (.cuePut m) s = .next t
      ∧ (s.wtb.state = .unset → t = s.finishEdit p .noTimebase)
      ∧ (s.wtb.state ≠ .unset →
        (PutProtected s.eu.permits[p] x.edit → t = s.finishEdit p .isProtected)
        ∧ (¬ PutProtected s.eu.permits[p] x.edit →
          (PutFault s.wtb.w x.edit → t = s.finishEdit p .badField)
          ∧ ∀ c, ¬ PutFault s.wtb.w x.edit → Message.putRecord s.wtb.w x.edit = some c →
            ((∃ d ∈ s.sched.live, d.id = c.id ∧ d.state ≠ .waiting) → t = s.finishEdit p .inFlight)
            ∧ ((∀ d ∈ s.sched.live, d.id = c.id → d.state = .waiting) →
              (c.ahead s.wtb.w ≤ c.margin → t = s.finishEdit p .tooSoon)
              ∧ ((c.margin : Int) < c.ahead s.wtb.w →
                ((∃ d ∈ s.sched.live, d.id ≠ c.id ∧ d.fire = c.fire ∧ ∃ y ∈ d.participants, c.hasPort y.port = true) →
                  t = s.finishEdit p .clash)
                ∧ ((∀ d ∈ s.sched.live, d.id ≠ c.id → d.fire = c.fire →
                    ∀ y ∈ d.participants, c.hasPort y.port = false) →
                  ((∀ d ∈ s.sched.live, d.id ≠ c.id) → 64 ≤ s.sched.live.length → t = s.finishEdit p .tableFull)
                  ∧ ((∃ d ∈ s.sched.live, d.id = c.id) ∨ s.sched.live.length < 64 →
                    t = State.finishEdit p .accepted
                      { s with sched := s.sched.putCue s.wtb.w (c.enter s.wtb.w) }))))))

/-- An accepted put in the table (R59, R61, R62, R80, R93): a put without a fault has a record, with the transition of
character 8 and the policy of character 15 (R39, R52); it takes the place of the WAITING record of its id; every other
cue stays and fire order is kept; and the entry test decides between WAITING and ASKING, where every participant is
asked and owed a PREPARE. -/
def Obligations.CuePutStores : Prop :=
  ∀ (w : Frame) (m : Message) (sch : Schedule), ¬ PutFault w m →
    ∃ c, Message.putRecord w m = some c ∧ c = m.cueOf c.transition c.policy
      ∧ (m.num 8 = 0 → c.transition = .cut) ∧ (m.num 8 = 1 → c.transition = .dim)
      ∧ (m.num 15 = 0 → c.policy = .defer) ∧ (m.num 15 = 1 → c.policy = .partialTake)
      ∧ (m.num 15 = 2 → c.policy = .cancel)
      ∧ (∀ d, d ∈ (sch.putCue w (c.enter w)).live ↔ d = c.enter w ∨ d ∈ sch.live ∧ d.id ≠ c.id)
      ∧ (sch.live.Pairwise (fun a b => a.before w b = true) →
          (sch.putCue w (c.enter w)).live.Pairwise fun a b => a.before w b = true)
      ∧ ((c.lead : Int) < c.ahead w → c.enter w = c)
      ∧ (c.ahead w ≤ c.lead → ∃ n, c.enter w = { c with
          state := .asking
          participants := c.participants.map fun x => { x with readiness := .asked }
          notices := n }
        ∧ ∀ q : Port, n[q] = ⟨if c.hasPort q then some .prepare else none, false, false⟩)

/-- The completion of a CUE_DROP (R82, R111): four checks in order; an accepted drop retires the live cue with outcome
DROPPED, with an ABORT duty for every participant unless the cue is still WAITING. No start comes before the event
(log 10), and the completion acts on the ACTIVE edit (log 11). -/
def Obligations.CueDropChecks : Prop :=
  ∀ (s : State) (p : Port) (x : EditSlot) (m : Moment),
    s.NoStartBefore m → s.eu.state = .working → s.eu.active = some (p, x) →
    Message.kind x.edit = some .cueDrop → (s.sched.live.map (·.id)).Nodup →
    ∃ t, exec (.cueDrop m) s = .next t
      ∧ (s.wtb.state = .unset → t = s.finishEdit p .noTimebase)
      ∧ (s.wtb.state ≠ .unset →
        ((∀ low high, s.eu.permits[p].idRange = some (low, high) →
            x.edit.num 3 < low.toNat ∨ high.toNat < x.edit.num 3) → t = s.finishEdit p .isProtected)
        ∧ ∀ low high, s.eu.permits[p].idRange = some (low, high) → low.toNat ≤ x.edit.num 3 →
            x.edit.num 3 ≤ high.toNat →
          ((∀ c ∈ s.sched.live, c.id ≠ x.edit.char 3) → t = s.finishEdit p .unknownCue)
          ∧ ∀ c ∈ s.sched.live, c.id = x.edit.char 3 →
            (c.state = .taken ∨ c.state = .armed ∧
                (c.transition = .dim ∧ c.ahead s.wtb.w < c.lo ∨ c.transition = .cut ∧ c.ahead s.wtb.w ≤ 0) →
              t = s.finishEdit p .tooLate)
            ∧ (c.state = .waiting ∨ c.state = .asking ∨ c.state = .armed ∧
                (c.transition = .dim → (c.lo : Int) ≤ c.ahead s.wtb.w) ∧ (c.transition = .cut → 0 < c.ahead s.wtb.w) →
              t = State.finishEdit p .accepted { s with
                sched := s.sched.retire s.wtb.w c .dropped
                  (fun q => if c.state ≠ .waiting ∧ c.hasPort q = true then some .dropped else none) }))

/-- The completion of a ZONE_SET (R83, R151): two checks; an accepted one replaces the zone's configuration by the
stored values and clamps its applied base into the new limits, and changes no working value else. No start is due (log
10), and the completion acts on the ACTIVE edit (log 11). -/
def Obligations.ZoneSetStores : Prop :=
  ∀ (s : State) (p : Port) (x : EditSlot) (m : Moment),
    s.NoStartBefore m → s.eu.state = .working → s.eu.active = some (p, x) →
    Message.kind x.edit = some .zoneSet →
    ∃ t, exec (.zoneSet m) s = .next t
      ∧ (s.eu.permits[p].rights.zone = false → t = s.finishEdit p .isProtected)
      ∧ (s.eu.permits[p].rights.zone = true →
        (7 < x.edit.num 3 ∨ (5 < x.edit.num 4 ∧ x.edit.num 4 ≠ 255) ∨ 8 < x.edit.num 5 →
          t = s.finishEdit p .badField)
        ∧ ∀ z : ZoneId, z.val = x.edit.num 3 → (x.edit.num 4 ≤ 5 ∨ x.edit.num 4 = 255) → x.edit.num 5 ≤ 8 →
          ∃ cfg : ZoneConfig,
            t = State.finishEdit p .accepted { s with dimmer := { s.dimmer with
              zones := s.dimmer.zones.set z { s.dimmer.zones[z] with
                config := cfg, ba := max cfg.dmin (min cfg.dmax s.dimmer.zones[z].ba) } } }
            ∧ (∀ q : Port, cfg.owner = some q ↔ q.val = x.edit.num 4)
            ∧ (∀ i : SensorId, cfg.sensor = some i ↔ i.val = x.edit.num 5)
            ∧ cfg.fixedAmbient = min (x.edit.num2 6) 1023
            ∧ (∀ i : Fin 9, cfg.curve[i] = min (x.edit.num2 (15 + 2 * i.val)) 1000)
            ∧ cfg.trim = max 32 (min 96 (x.edit.num 8))
            ∧ cfg.dmax = min (x.edit.num2 11) 1000 ∧ cfg.dmin = min (x.edit.num2 9) cfg.dmax
            ∧ cfg.slew = max 1 (min 1000 (x.edit.num2 13)))

/-- The completion of a WALL_SET (R2, R8, R84): two checks; an accepted one is held as the pending set, or starts an
UNSET timebase at once with W as it is, and then hands on sweep count, filter shift and P. No start comes before the
event (log 10), and the completion acts on the ACTIVE edit (log 11). -/
def Obligations.WallSetStores : Prop :=
  ∀ (s : State) (p : Port) (x : EditSlot) (m : Moment),
    s.NoStartBefore m → s.eu.state = .working → s.eu.active = some (p, x) →
    Message.kind x.edit = some .wallSet →
    ∃ t, exec (.wallSet m) s = .next t
      ∧ (s.eu.permits[p].rights.wall = false → t = s.finishEdit p .isProtected)
      ∧ (s.eu.permits[p].rights.wall = true →
        (1 < x.edit.num 3 ∨ 2 < x.edit.num 4 ∨ 8 < x.edit.num 7 → t = s.finishEdit p .badField)
        ∧ (x.edit.num 3 ≤ 1 → x.edit.num 4 ≤ 2 → x.edit.num 7 ≤ 8 →
          ∃ set : WallSet, set.timebase.source.code = x.edit.num 3 ∧ set.timebase.prescale.val = x.edit.num 4
            ∧ set.timebase.n = max (x.edit.num2 5) 1000 ∧ set.common.sweepCount = x.edit.num 7
            ∧ set.common.sweepDivisor = max 1 (min 16 (x.edit.num 8))
            ∧ set.common.filterShift = min (x.edit.num 9) 7
            ∧ set.common.pwmPeriod = max 100 (min 4095 (x.edit.num2 10))
            ∧ (s.wtb.state ≠ .unset →
                t = State.finishEdit p .accepted { s with wtb := { s.wtb with pending := some set } })
            ∧ (s.wtb.state = .unset →
                t = State.finishEdit p .accepted { s with
                  wtb := { s.wtb with
                    state := if set.timebase.source = .internal then .free else .seeking
                    timebase := some set.timebase, common := set.common
                    c := 0, prescaleCount := 0, postscaler := 0, missRun := 0, relockRun := 0, interval := none }
                  ambient := { s.ambient with
                    sweepCount := set.common.sweepCount, filterShift := set.common.filterShift }
                  dimmer := { s.dimmer with p := set.common.pwmPeriod } })))

/-- The completion of a PHASE_SET (R85, R136, R137): two checks; an accepted one stores mode and tolerance, clears
prescaler, runs and frames since capture, keeps the last offset, and makes a STEP owed where the status changes. No
start is due (log 10), and the completion acts on the ACTIVE edit (log 11). -/
def Obligations.PhaseSetStores : Prop :=
  ∀ (s : State) (p : Port) (x : EditSlot) (m : Moment),
    s.NoStartBefore m → s.eu.state = .working → s.eu.active = some (p, x) →
    Message.kind x.edit = some .phaseSet →
    ∃ t, exec (.phaseSet m) s = .next t
      ∧ (x.edit.num 3 ≠ p.val → s.eu.permits[p].rights.wall = false → t = s.finishEdit p .isProtected)
      ∧ (x.edit.num 3 = p.val ∨ s.eu.permits[p].rights.wall = true →
        (5 < x.edit.num 3 ∨ 3 < x.edit.num 4 → t = s.finishEdit p .badField)
        ∧ ∀ (q : Port) (mode : EchoMode), q.val = x.edit.num 3 → mode.code = x.edit.num 4 →
          ∃ status : StepStatus,
            t = State.finishEdit p .accepted { s with
              watch := s.watch.set q
                { s.watch[q] with
                  settings := ⟨mode, x.edit.num2 5⟩, prescaler := 0, withinRun := 0, beyondRun := 0, frames := 0
                  status := status }
              composers := s.composers.set q
                { s.composers[q] with
                  stepOwed := s.composers[q].stepOwed || decide (status ≠ s.watch[q].status) } }
            ∧ (mode = .unused → status = .unused)
            ∧ (mode ≠ .unused → s.watch[q].settings.mode = .unused → status = .inStep)
            ∧ (mode ≠ .unused → s.watch[q].settings.mode ≠ .unused → status = s.watch[q].status))

/-- The completion of a PERMIT (R86) and of a LOCK (R87), which act on the ACTIVE edit (log 11). A PERMIT is
PROTECTED, LOCKED or BAD_FIELD by the first of its checks that fails, else it replaces the record of the named port. A
LOCK is PROTECTED without the PERMIT right, else ACCEPTED, and the lock is set (R78). No start comes before the event
(log 10). -/
def Obligations.PermitAndLock : Prop :=
  ∀ (s : State) (p : Port) (x : EditSlot) (m : Moment),
    s.NoStartBefore m → s.eu.state = .working → s.eu.active = some (p, x) →
    (Message.kind x.edit = some .permit → ∃ t, exec (.permit m) s = .next t
      ∧ (s.eu.permits[p].rights.permit = false → t = s.finishEdit p .isProtected)
      ∧ (s.eu.permits[p].rights.permit = true →
        (s.eu.lock = true → t = s.finishEdit p .locked)
        ∧ (s.eu.lock = false →
          (5 < x.edit.num 3 → t = s.finishEdit p .badField)
          ∧ ∀ q : Port, q.val = x.edit.num 3 →
            ∃ r : Permission, t = State.finishEdit p .accepted { s with
                eu := { s.eu with permits := s.eu.permits.set q r } }
              ∧ (x.edit.num 4 ≤ x.edit.num 5 → r.idRange = some (x.edit.char 4, x.edit.char 5))
              ∧ (x.edit.num 5 < x.edit.num 4 → r.idRange = none)
              ∧ (∀ k : Port, inMask r.direct k = (x.edit.char 6).getLsbD k.val)
              ∧ r.rights = ⟨(x.edit.char 7).getLsbD 0, (x.edit.char 7).getLsbD 1, (x.edit.char 7).getLsbD 2,
                  (x.edit.char 7).getLsbD 3⟩)))
    ∧ (Message.kind x.edit = some .lock → ∃ t, exec (.lock m) s = .next t
      ∧ (s.eu.permits[p].rights.permit = false → t = s.finishEdit p .isProtected)
      ∧ (s.eu.permits[p].rights.permit = true →
          t = State.finishEdit p .accepted { s with eu := { s.eu with lock := true } }))

/-- While the lock is set the permission records do not change and the lock stays set, whatever command comes, until a
reset of the part (R78); the records are also written at the end of the load that follows a reset. -/
def Obligations.LockHoldsPermissions : Prop :=
  ∀ (i : Instr) (s t : State), s.eu.lock = true → exec i s = .next t → (∀ m, i ≠ .powerOnReset m ∧ i ≠ .pinReset m) →
    (∀ rxd m, i ≠ .loadEnd rxd m) ∨ s.page.state ≠ .loading true → t.eu.permits = s.eu.permits ∧ t.eu.lock = true

/-- A save phase by phase (R167): the erase leaves a blank page, the program writes the snapshot, a matching read-back
begins the mark, whose end makes the marker present and completes the SAVE with ACCEPTED; a mismatch leaves the marker
absent and completes it with STORE_FAULT. A SAVE without the right completes PROTECTED and does not touch the page
(R88). What the read-back finds is the command's operand (log 16). No start comes before the event (log 10). -/
def Obligations.SavePhases : Prop :=
  ∀ (s : State) (p : Port) (x : EditSlot) (snapshot : Settings) (m : Moment),
    s.NoStartBefore m → s.eu.active = some (p, x) →
    (s.page.state = .saving .erase snapshot → exec (.erase m) s = .next { s with
      page := { s.page with state := .saving .program snapshot, record := none } })
    ∧ (s.page.state = .saving .program snapshot → exec (.program m) s = .next { s with
      page := { s.page with state := .saving .check snapshot, record := some snapshot } })
    ∧ (s.page.state = .saving .check snapshot →
      exec (.check true m) s = .next { s with page := { s.page with state := .saving .mark snapshot } }
      ∧ exec (.check false m) s = .next (State.finishEdit p .storeFault
        { s with page := { s.page with state := .idle, marker := false } }))
    ∧ (s.page.state = .saving .mark snapshot → s.eu.state = .storing →
      exec (.save m) s = .next (State.finishEdit p .accepted
        { s with page := { s.page with state := .idle, marker := true } }))
    ∧ (s.eu.state = .working → Message.kind x.edit = some .save → exec (.save m) s = .next (s.finishEdit p .isProtected))

/-! ### Notices to players (chapters 3 and 7) -/

/-- The merge of a duty that R117 lets through with the notice already owed for the instance, cell by cell of the
table of R118; the marks of the sent-history are unchanged. `asked` is the asked-sent mark. A duty for an instance
whose abort-sent mark is set is not taken: nothing changes (R117). -/
def Obligations.DutyMeetsOwedNotice : Prop :=
  ∀ (r r' : AbortReason) (asked : Bool) (cell : CueNotice → Option CueNotice → Option CueNotice → Prop),
    (∀ duty owed result, cell duty owed result ↔
      PortNotice.offer duty ⟨owed, asked, false⟩ = ⟨result, asked, false⟩) →
    cell .prepare none (some .prepare)
    ∧ cell .prepare (some .prepare) (some .prepare)
    ∧ cell .prepare (some .defer) (some .prepare)
    ∧ cell .prepare (some .commit) (some .prepare)
    ∧ cell .prepare (some (.abort r')) (some (.abort r'))
    ∧ cell .defer none (some .defer)
    ∧ cell .defer (some .prepare) (some .prepare)
    ∧ cell .defer (some .defer) (some .defer)
    ∧ cell .defer (some .commit) (some .defer)
    ∧ cell .defer (some (.abort r')) (some (.abort r'))
    ∧ cell .commit none (some .commit)
    ∧ cell .commit (some .prepare) (some .commit)
    ∧ cell .commit (some .defer) (some .commit)
    ∧ cell .commit (some .commit) (some .commit)
    ∧ cell .commit (some (.abort r')) (some (.abort r'))
    ∧ cell (.abort r) none (some (.abort r))
    ∧ (asked = false → cell (.abort r) (some .prepare) none)
    ∧ (asked = true → cell (.abort r) (some .prepare) (some (.abort r)))
    ∧ cell (.abort r) (some .defer) (some (.abort r))
    ∧ cell (.abort r) (some .commit) (some (.abort r))
    ∧ cell (.abort r) (some (.abort r')) (some (.abort r))
    ∧ ∀ (duty : CueNotice) (owed : Option CueNotice),
        PortNotice.offer duty ⟨owed, asked, true⟩ = ⟨owed, asked, true⟩

/-- The settling of a retired instance on every port (R119, R120), from the notice owed on the port, its sent-history
and the ABORT duty of the retirement: an ABORT joins the newest end of the port's retired ABORT list, which keeps the
last sixteen, or nothing is left there. -/
def Obligations.RetirementSettlesNotices : Prop :=
  ∀ (w : Frame) (c : Cue) (outcome : CueOutcome) (duty : Port → Option AbortReason) (sch : Schedule) (p : Port),
    (∀ r, duty p = some r → c.notices[p].abortSent = false →
      ¬ (c.notices[p].owed = some .prepare ∧ c.notices[p].askedSent = false) →
      (sch.retire w c outcome duty).aborts[p]
        = (sch.aborts[p] ++ [(⟨c.id, r⟩ : RetiredAbort)]).drop (sch.aborts[p].length + 1 - 16))
    ∧ (∀ r, duty p = some r → (c.notices[p].abortSent = true
        ∨ c.notices[p].owed = some .prepare ∧ c.notices[p].askedSent = false) →
      (sch.retire w c outcome duty).aborts[p] = sch.aborts[p])
    ∧ (∀ r, duty p = none → c.notices[p].owed = some (.abort r) →
      (sch.retire w c outcome duty).aborts[p]
        = (sch.aborts[p] ++ [(⟨c.id, r⟩ : RetiredAbort)]).drop (sch.aborts[p].length + 1 - 16))
    ∧ (duty p = none → (∀ r, c.notices[p].owed ≠ some (.abort r)) →
      (sch.retire w c outcome duty).aborts[p] = sch.aborts[p])
    ∧ (sch.aborts[p].length ≤ 16 → (sch.retire w c outcome duty).aborts[p].length ≤ 16)

/-- The order in which a port's notices go out (R31, R124, R125; the send commands are log 10): a send command of a
group is the one that sends exactly when the transmitter is IDLE with CTS asserted, its own group owes a notice and no
group above it does; else nothing changes. -/
def Obligations.SendsFollowPriority : Prop :=
  ∀ (s : State) (p : Port) (live : List Cue) (owes : Nat → Prop), live = s.sched.live →
    (owes 1 ↔ ∃ c ∈ live, c.notices[p].owed = some .commit) →
    (owes 2 ↔ s.sched.aborts[p] ≠ [] ∨ ∃ c ∈ live, ∃ r, c.notices[p].owed = some (.abort r)) →
    (owes 3 ↔ ∃ c ∈ live, c.notices[p].owed = some .defer) →
    (owes 4 ↔ ∃ c ∈ live, c.notices[p].owed = some .prepare) →
    (owes 5 ↔ s.composers[p].stepOwed = true) →
    (owes 6 ↔ ∃ x ∈ s.eu.slots[p], x.isDone = true) →
    (owes 7 ↔ s.composers[p].report ≠ none) →
    ∀ (group : Nat) (i : Instr),
      (group, i) ∈ [(1, Instr.commit p), (2, .abort p), (3, .defer p), (4, .prepare p), (5, .step p),
        (6, .editResult p), (7, .report p)] →
      ∃ t, exec i s = .next t
        ∧ (s.links[p].tx = .idle → s.links[p].cts = true → owes group →
            (∀ g, 1 ≤ g → g < group → ¬ owes g) →
            ∃ kind rest, t.links[p].tx = .sending (outgoing true kind) rest
              ∧ kind.toNat = [66, 67, 65, 64, 70, 68, 69].getD (group - 1) 0)
        ∧ ((s.links[p].tx ≠ .idle ∨ s.links[p].cts = false ∨ ¬ owes group ∨ ∃ g, 1 ≤ g ∧ g < group ∧ owes g) →
            t = s)

/-- The sending of a cue notice (R117, R120, R124 to R126). Of the ABORTs the oldest entry of the port's retired ABORT
list goes first, and leaves the list. Else the notice is that of the earliest live cue in fire order that owes one of
its group, composed from the cue as it stands; it is no longer owed on that port; a PREPARE or DEFER sets asked-sent,
an ABORT abort-sent, a COMMIT neither. Of the part nothing else changes but the transmitter. -/
def Obligations.CueNoticesAreSent : Prop :=
  ∀ (s : State) (p : Port) (c : Cue) (earlier later : List Cue) (notice : CueNotice),
    s.links[p].tx = .idle → s.links[p].cts = true → s.sched.live = earlier ++ c :: later →
    (s.sched.live.map (·.id)).Nodup →
    (∀ (a : RetiredAbort) (rest : List RetiredAbort), s.sched.aborts[p] = a :: rest →
      (∀ d ∈ s.sched.live, d.notices[p].owed ≠ some .commit) →
      exec (.abort p) s = .next { s with
        sched := { s.sched with aborts := s.sched.aborts.set p rest }
        links := s.links.set p { s.links[p] with
          tx := .sending (outgoing true 67) [a.id, BitVec.ofNat 8 a.reason.code] } })
    ∧ (c.notices[p].owed = some notice → (∀ d ∈ earlier, d.notices[p].owed ≠ some notice) →
      (notice = .commit → exec (.commit p) s = .next (s.afterNotice p earlier
        { c with notices := c.notices.set p { c.notices[p] with owed := none } } later 66 (c.id :: chars4 c.fire)))
      ∧ (notice = .defer → (∀ d ∈ s.sched.live, d.notices[p].owed ≠ some .commit) → s.sched.aborts[p] = [] →
          (∀ d ∈ s.sched.live, ∀ r, d.notices[p].owed ≠ some (.abort r)) →
          exec (.defer p) s = .next (s.afterNotice p earlier
            { c with notices := c.notices.set p { c.notices[p] with owed := none, askedSent := true } } later 65
            (c.id :: chars4 c.fire ++ [BitVec.ofNat 8 c.deferralsUsed])))
      ∧ (∀ r, notice = .abort r → (∀ d ∈ s.sched.live, d.notices[p].owed ≠ some .commit) → s.sched.aborts[p] = [] →
          (∀ d ∈ earlier, ∀ r', d.notices[p].owed ≠ some (.abort r')) →
          exec (.abort p) s = .next (s.afterNotice p earlier
            { c with notices := c.notices.set p { c.notices[p] with owed := none, abortSent := true } } later 67
            [c.id, BitVec.ofNat 8 r.code]))
      ∧ (notice = .prepare → (∀ d ∈ s.sched.live, d.notices[p].owed ≠ some .commit) → s.sched.aborts[p] = [] →
          (∀ d ∈ s.sched.live, ∀ r, d.notices[p].owed ≠ some (.abort r)) →
          (∀ d ∈ s.sched.live, d.notices[p].owed ≠ some .defer) →
          ∀ x ∈ c.participants, x.port = p → (c.participants.map (·.port)).Nodup →
          exec (.prepare p) s = .next (s.afterNotice p earlier
            { c with notices := c.notices.set p { c.notices[p] with owed := none, askedSent := true } } later 64
            (c.id :: chars4 c.fire ++ chars2 x.token.toNat
              ++ [BitVec.ofNat 8 c.transition.code, BitVec.ofNat 8 c.lo, BitVec.ofNat 8 c.li]))))

/-- The sending of an EDIT_RESULT (R51, R73, R123): tag, outcome and cue id of the earlier DONE slot; the slot is
EMPTY, a waiting edit moves in, and an IDLE edit unit may take it. And of a STEP (R121, R127): step status and last
offset; the flag is cleared. -/
def Obligations.ResultsAndStepsAreSent : Prop :=
  ∀ (s : State) (p : Port), s.links[p].tx = .idle → s.links[p].cts = true →
    (∀ d ∈ s.sched.live, d.notices[p].owed = none) → s.sched.aborts[p] = [] →
    (s.composers[p].stepOwed = true →
      exec (.step p) s = .next { s with
        composers := s.composers.set p { s.composers[p] with stepOwed := false }
        links := s.links.set p { s.links[p] with
          tx := .sending (outgoing true 70) (BitVec.ofNat 8 s.watch[p].status.code :: charsSigned s.watch[p].lastOffset) } })
    ∧ (∀ (x : EditSlot) (before after : List EditSlot) (outcome : EditOutcome) (link : Link),
      s.composers[p].stepOwed = false → s.eu.slots[p] = before ++ x :: after → x.status = .done outcome →
      (∀ y ∈ before, y.isDone = false) → (before ++ after).length < 2 →
      link = { s.links[p] with tx := .sending (outgoing true 68) [x.edit.char 2, BitVec.ofNat 8 outcome.code,
        if Message.kind x.edit = some .cuePut ∨ Message.kind x.edit = some .cueDrop then x.edit.char 3 else 0] } →
      (s.links[p].holding = none → exec (.editResult p) s = .next (State.arbitrate { s with
        links := s.links.set p link, eu := { s.eu with slots := s.eu.slots.set p (before ++ after) } }))
      ∧ ∀ m, s.links[p].holding = some m → ∃ name, exec (.editResult p) s = .next (State.arbitrate { s with
        links := s.links.set p { link with holding := none }
        eu := { s.eu with slots := s.eu.slots.set p (before ++ after ++ [⟨name, m, .queued⟩]) } }))

/-- The sending of a REPORT (R46, R122, R127): kind, subject, index and a body of sixteen characters, each field at
its place and in its code (R52); the owed REPORT becomes none. A CUE body has the live form for a live cue, else the
retired form of the newest entry of its id, else the unknown form (R47, R69); a PORT body carries flags, phase watch,
slots in use, lock and permission record (R48); WALL, ZONE and SENSOR carry what R49 lists. A QUERY that is not valid
is answered by subject 255, its index and sixteen zeros and clears nothing; a PORT report clears the sticky flags of
its port, a WALL report GLITCH and the sweep overrun flag. The characters Id low and Id high of an empty id range are
free values (log 13). -/
def Obligations.ReportsAreSent : Prop :=
  ∀ (s : State) (p : Port) (subject index : Byte), s.links[p].tx = .idle → s.links[p].cts = true →
    (∀ d ∈ s.sched.live, d.notices[p].owed = none) → s.sched.aborts[p] = [] → s.composers[p].stepOwed = false →
    (∀ x ∈ s.eu.slots[p], x.isDone = false) → s.composers[p].report = some (subject, index) →
    ∃ t body, exec (.report p) s = .next t
      ∧ body.length = 16
      ∧ t.composers = s.composers.set p { s.composers[p] with report := none }
      ∧ t.sched = s.sched ∧ t.eu = s.eu ∧ t.watch = s.watch ∧ t.dimmer = s.dimmer ∧ t.page = s.page
      ∧ t.links[p].tx = .sending (outgoing true 69)
        ((if subjectOf subject index = none then 255 else subject) :: index :: body)
      ∧ (subjectOf subject index = none ↔ 4 < subject.toNat ∨ subject.toNat = 1 ∧ 5 < index.toNat
          ∨ (subject.toNat = 3 ∨ subject.toNat = 4) ∧ 7 < index.toNat)
      ∧ (subjectOf subject index = none → body = List.replicate 16 0)
      ∧ (∀ q : Port, q ≠ p → t.links[q] = { s.links[q] with flags := t.links[q].flags })
      ∧ (∀ q : Port, t.links[q].flags
          = if subject.toNat = 1 ∧ index.toNat = q.val then .clear else s.links[q].flags)
      ∧ t.wtb = { s.wtb with glitch := s.wtb.glitch && decide (subject.toNat ≠ 2) }
      ∧ t.ambient = { s.ambient with overrun := s.ambient.overrun && decide (subject.toNat ≠ 2) }
      ∧ (∀ c ∈ s.sched.live, subject = 0 → c.id = index → (s.sched.live.map (·.id)).Nodup →
          c.participants.length ≤ 6 →
          (∃ ready ready' : Byte, ∃ reasons : List Byte,
            body = char1 c.state.code :: chars4 c.fire
              ++ [char1 c.deferralsUsed, char1 c.participants.length, c.armed.setWidth 8, ready, ready'] ++ reasons
            ∧ ready'.toNat < 16)
          ∧ ∀ k, k < 6 →
            (∀ x, c.participants[k]? = some x →
              (body.getD (8 + k / 4) 0).toNat / 4 ^ (k % 4) % 4 = x.readiness.code
              ∧ (∀ r, x.readiness = .refused r → body.getD (10 + k) 0 = r)
              ∧ ((∀ r, x.readiness ≠ .refused r) → body.getD (10 + k) 0 = 0))
            ∧ (c.participants.length ≤ k →
              (body.getD (8 + k / 4) 0).toNat / 4 ^ (k % 4) % 4 = 0 ∧ body.getD (10 + k) 0 = 0))
      ∧ (subject = 0 → (∀ c ∈ s.sched.live, c.id ≠ index) →
          (∀ older e newer, s.sched.outcomes = older ++ e :: newer → e.id = index → (∀ x ∈ newer, x.id ≠ index) →
            body = 5 :: chars4 e.fire ++ [char1 e.outcome.code, char1 e.deferralsUsed, e.armed.setWidth 8,
                e.unsent.setWidth 8, char1 e.continuation.code]
              ++ chars4 (match e.continuation with
                | .rescheduled f => f
                | .none | .endedCount | .endedClash => 0) ++ [0, 0])
          ∧ ((∀ e ∈ s.sched.outcomes, e.id ≠ index) → body = 4 :: List.replicate 15 0))
      ∧ (∀ q : Port, subject = 1 → index.toNat = q.val →
          ∃ flags low high rights : Byte,
            body = [flags, char1 s.watch[q].status.code] ++ charsSigned s.watch[q].lastOffset
              ++ [char1 s.eu.slots[q].length, if s.eu.lock then 1 else 0, low, high,
                s.eu.permits[q].direct.setWidth 8, rights, char1 s.watch[q].settings.mode.code]
              ++ chars2 s.watch[q].settings.tolerance ++ [0, 0, 0]
            ∧ ((List.range 8).map flags.getLsbD = [s.links[q].flags.parity, s.links[q].flags.framing,
              s.links[q].flags.overrun, s.links[q].flags.truncated, s.links[q].flags.badKind, s.links[q].flags.stray,
              false, false])
            ∧ (∀ range, s.eu.permits[q].idRange = some range → low = range.1 ∧ high = range.2)
            ∧ ((List.range 8).map rights.getLsbD = [s.eu.permits[q].rights.zone, s.eu.permits[q].rights.wall,
              s.eu.permits[q].rights.save, s.eu.permits[q].rights.permit, false, false, false, false]))
      ∧ (subject = 2 → ∃ source prescale n : Nat,
          body = chars4 s.wtb.w ++ [char1 s.wtb.state.code, char1 source] ++ chars2 n
            ++ [char1 prescale, if s.ambient.overrun then 1 else 0, if s.wtb.glitch then 1 else 0,
              char1 s.sched.live.length, char1 s.wtb.common.sweepCount, char1 s.wtb.common.sweepDivisor]
            ++ chars2 s.wtb.common.pwmPeriod
          ∧ (s.wtb.timebase = none → source = 0 ∧ prescale = 0 ∧ n = 0)
          ∧ ∀ b, s.wtb.timebase = some b → source = b.source.code ∧ prescale = b.prescale.val ∧ n = b.n)
      ∧ (∀ (z : ZoneId) (x : Zone), subject = 3 → index.toNat = z.val → x = s.dimmer.zones[z] →
          ∃ owner sensor : Nat,
            body = [char1 owner, char1 sensor] ++ chars2 x.ba ++ chars2 x.g ++ chars2 x.d ++ chars2 x.active
              ++ chars2 x.config.dmin ++ chars2 x.config.dmax ++ [char1 x.config.trim, 0]
            ∧ (x.config.owner = none → owner = 255) ∧ (∀ q : Port, x.config.owner = some q → owner = q.val)
            ∧ (x.config.sensor = none → sensor = 8) ∧ (∀ j : SensorId, x.config.sensor = some j → sensor = j.val))
      ∧ (∀ (j : SensorId) (x : Sensor), subject = 4 → index.toNat = j.val → x = s.ambient.sensors[j] →
          body = [char1 x.state.code] ++ chars2 x.last ++ chars2 x.f ++ [char1 x.railRun, char1 x.clearRun]
            ++ List.replicate 9 0)

/-! ### Phase watch and ambient sweep (chapters 8 and 9) -/

/-- A rising edge on an echo input while the timebase runs (R131, R132), at the count c that the passing of the ticks
gives (log 2). A port in mode UNUSED does nothing; an edge that does not complete the divisor is counted; the edge
that completes it captures the offset and is judged (R133, R135): the third in a row of the other kind changes the
status, and in SILENT the first capture does. In UNSET nothing happens. No start comes before the event (log 10). -/
def Obligations.EchoEdgeIsJudged : Prop :=
  ∀ (s : State) (p : Port) (ticks c : Nat) (m : Moment),
    s.NoStartBefore m → c = s.wtb.c + min ticks (s.wtb.limit - s.wtb.c) →
    ∃ t, exec (.echoEdge p ticks m) s = .next t
      ∧ (s.wtb.state = .unset → t = s)
      ∧ (s.wtb.state ≠ .unset →
        t = { s with
          wtb := t.wtb
          watch := s.watch.set p t.watch[p]
          composers := s.composers.set p { s.composers[p] with
            stepOwed := s.composers[p].stepOwed || decide (t.watch[p].status ≠ s.watch[p].status) } }
        ∧ t.wtb.c = c ∧ t.wtb.w = s.wtb.w ∧ t.wtb.state = s.wtb.state ∧ t.wtb.timebase = s.wtb.timebase
        ∧ (s.watch[p].settings.mode = .unused → t.watch[p] = s.watch[p])
        ∧ ∀ divisor : Nat,
          (s.watch[p].settings.mode = .every ∧ divisor = 1 ∨ s.watch[p].settings.mode = .fourth ∧ divisor = 4
            ∨ s.watch[p].settings.mode = .sixteenth ∧ divisor = 16) →
          (s.watch[p].prescaler + 1 < divisor →
            t.watch[p] = { s.watch[p] with prescaler := s.watch[p].prescaler + 1 })
          ∧ (divisor ≤ s.watch[p].prescaler + 1 →
            ∃ (offset : Int) (e : EchoWatch),
              offset = (if c < s.wtb.n / 2 then (if 32767 < c then 32767 else (c : Int))
                else if 32767 < (c : Int) - s.wtb.n then 32767 else (c : Int) - s.wtb.n)
              ∧ e = { s.watch[p] with prescaler := 0, frames := 0, lastOffset := offset }
              ∧ (e.status = .inStep → offset.natAbs ≤ e.settings.tolerance → t.watch[p] = { e with beyondRun := 0 })
              ∧ (e.status = .inStep → e.settings.tolerance < offset.natAbs → t.watch[p] =
                  if e.beyondRun + 1 < 3 then { e with beyondRun := e.beyondRun + 1, withinRun := 0 }
                  else { e with status := .outOfStep, withinRun := 0, beyondRun := 0 })
              ∧ (e.status = .outOfStep → e.settings.tolerance < offset.natAbs → t.watch[p] = { e with withinRun := 0 })
              ∧ (e.status = .outOfStep → offset.natAbs ≤ e.settings.tolerance → t.watch[p] =
                  if e.withinRun + 1 < 3 then { e with withinRun := e.withinRun + 1, beyondRun := 0 }
                  else { e with status := .inStep, withinRun := 0, beyondRun := 0 })
              ∧ (e.status = .silent → t.watch[p] = { e with
                  status := if offset.natAbs ≤ e.settings.tolerance then .inStep else .outOfStep
                  withinRun := 0, beyondRun := 0 })))

/-- A strobe at the phase watch and the ambient sweep, whatever its cause: frames since capture count to 64, where a
port that is IN_STEP or OUT_OF_STEP becomes SILENT and owes a STEP (R134, R136); an applied pending set hands on sweep
count and shift (R5, R141); a postscaler that returns to 0 triggers a sweep, which starts if the sweep is IDLE and
else sets the overrun flag (R17, R142, R143). No start comes before the event (log 10). -/
def Obligations.StrobeAtWatchAndSweep : Prop :=
  ∀ (i : Instr) (s : State) (o : StrobeOrder), strobeOf i s = some o → s.NoStartBefore o.moment →
    ∃ t, exec i s = .next t
      ∧ (∀ p : Port, s.watch[p].settings.mode = .unused → t.watch[p] = s.watch[p])
      ∧ (∀ p : Port, s.watch[p].settings.mode ≠ .unused →
          t.watch[p].frames = min (s.watch[p].frames + 1) 64
          ∧ (if (s.watch[p].status = .inStep ∨ s.watch[p].status = .outOfStep) ∧ 64 ≤ s.watch[p].frames + 1 then
              t.watch[p].status = .silent ∧ t.watch[p].withinRun = 0 ∧ t.watch[p].beyondRun = 0
              ∧ t.composers[p] = { s.composers[p] with stepOwed := true }
            else t.watch[p] = { s.watch[p] with frames := min (s.watch[p].frames + 1) 64 }
              ∧ t.composers[p] = s.composers[p]))
      ∧ t.ambient.sensors = s.ambient.sensors
      ∧ (∀ set, s.wtb.pending = some set → t.ambient = { s.ambient with
          sweepCount := set.common.sweepCount, filterShift := set.common.filterShift })
      ∧ (s.wtb.pending = none →
          (s.wtb.postscaler + 1 ≠ s.wtb.common.sweepDivisor ∨ s.wtb.common.sweepCount = 0 → t.ambient = s.ambient)
          ∧ (s.wtb.postscaler + 1 = s.wtb.common.sweepDivisor → 1 ≤ s.wtb.common.sweepCount →
            (s.ambient.sweep = .idle → 1 ≤ s.ambient.sweepCount →
              t.ambient = { s.ambient with sweep := .sweeping s.ambient.sweepCount 0 })
            ∧ (s.ambient.sweep ≠ .idle → t.ambient = { s.ambient with overrun := true })))

/-- The end of a conversion (R140, R142, R144 to R146): it changes the sensor converted and no other; the sweep goes
on to the next sensor or ends after S(k-1); the sensor's state, runs and F change by the rule of its state, where a
rail sample is 0 or 1023. The result is the command's operand (log 17). Outside a sweep no conversion ends: that the
command then leaves the state as it is, is the model's choice (log 1). No start comes before the event (log 10). -/
def Obligations.ConversionEnds : Prop :=
  ∀ (s : State) (a : Nat) (m : Moment), s.NoStartBefore m → a ≤ 1023 →
    (s.ambient.sweep = .idle → exec (.conversionEnd a m) s = .next s)
    ∧ ∀ (k : Nat) (i : SensorId) (x : Sensor), s.ambient.sweep = .sweeping k i → k ≤ 8 → x = s.ambient.sensors[i] →
      ∃ t, exec (.conversionEnd a m) s = .next t
        ∧ t = { s with ambient := { s.ambient with
          sweep := t.ambient.sweep, sensors := s.ambient.sensors.set i t.ambient.sensors[i] } }
        ∧ (i.val + 1 < k → ∃ j : SensorId, j.val = i.val + 1 ∧ t.ambient.sweep = .sweeping k j)
        ∧ (k ≤ i.val + 1 → t.ambient.sweep = .idle)
        ∧ (x.state = .unseeded → t.ambient.sensors[i] =
            if a = 0 ∨ a = 1023 then { x with last := a, railRun := min (x.railRun + 1) 8 }
            else { x with last := a, f := a * 64, state := .good, railRun := 0 })
        ∧ (x.state = .good → t.ambient.sensors[i] =
            if a = 0 ∨ a = 1023 then
              if x.railRun < 7 then { x with last := a, railRun := x.railRun + 1 }
              else { x with last := a, state := .faulted, railRun := 0, clearRun := 0 }
            else { x with last := a, f := filterStep s.ambient.filterShift x.f a, railRun := 0 })
        ∧ (x.state = .faulted → t.ambient.sensors[i] =
            if a = 0 ∨ a = 1023 then { x with last := a, clearRun := 0 }
            else if x.clearRun < 7 then { x with last := a, clearRun := x.clearRun + 1 }
            else { x with
              last := a, f := filterStep s.ambient.filterShift x.f a, state := .good, railRun := 0, clearRun := 0 })

/-- The filter (R147, R148): F moves by the difference to A × 64 divided by 2^s and rounded toward minus infinity; it
never passes A × 64, reaches it in one step at shift 0, and stays on the scale. -/
def Obligations.FilterStaysOnScale : Prop :=
  ∀ (shift f a : Nat), f ≤ 65472 → a ≤ 1023 →
    ((filterStep shift f a : Nat) : Int) = f + ((64 * a : Int) - f) / 2 ^ shift
    ∧ (f ≤ 64 * a → f ≤ filterStep shift f a ∧ filterStep shift f a ≤ 64 * a)
    ∧ (64 * a ≤ f → 64 * a ≤ filterStep shift f a ∧ filterStep shift f a ≤ f)
    ∧ (64 * a < f → filterStep shift f a < f)
    ∧ filterStep 0 f a = 64 * a
    ∧ filterStep shift f a ≤ 65472

/-! ### Zone dimming (chapter 10) -/

/-- The curve's target (R154): the breakpoint of the segment plus the segment's share, truncated toward zero; it lies
between the two breakpoints of its segment, at most 1000 for a stored curve, and reaches B8 only when B7 equals B8. -/
def Obligations.CurveTarget : Prop :=
  ∀ (z : ZoneConfig) (f : Nat) (low high : Fin 9), f ≤ 65472 → low.val = f / 8192 → high.val = f / 8192 + 1 →
    ((z.target f : Nat) : Int)
      = z.curve[low] + (((z.curve[high] : Int) - z.curve[low]) * (f - 8192 * (f / 8192) : Nat)).tdiv 8192
    ∧ min z.curve[low] z.curve[high] ≤ z.target f ∧ z.target f ≤ max z.curve[low] z.curve[high]
    ∧ ((∀ i : Fin 9, z.curve[i] ≤ 1000) → z.target f ≤ 1000)
    ∧ (high = 8 → z.target f = z.curve[high] → z.curve[low] = z.curve[high])

/-- The fade factor of a zone (R157): 256 without an owner; else the least factor of the DIM cues in ARMED or TAKEN
whose armed mask holds the owner and whose fade window the frame lies in, and 256 when there is none. -/
def Obligations.FadeFactorIsLeast : Prop :=
  ∀ (w : Frame) (live : List Cue) (p : Port), (∀ c ∈ live, 1 ≤ c.lo ∧ 1 ≤ c.li) →
    fadeFactor w live none = 256
    ∧ fadeFactor w live (some p) ≤ 256
    ∧ (∀ c ∈ live, c.transition = .dim → (c.state = .armed ∨ c.state = .taken) → inMask c.armed p = true →
        (∀ j : Nat, 1 ≤ j → j ≤ c.lo → c.ahead w = (c.lo : Int) - j →
          fadeFactor w live (some p) ≤ 256 - 256 * j / c.lo)
        ∧ (∀ j : Nat, 1 ≤ j → j ≤ c.li → c.ahead w = -(j : Int) → fadeFactor w live (some p) ≤ 256 * j / c.li))
    ∧ (fadeFactor w live (some p) < 256 →
        ∃ c ∈ live, c.transition = .dim ∧ (c.state = .armed ∨ c.state = .taken) ∧ inMask c.armed p = true
          ∧ ((∃ j : Nat, 1 ≤ j ∧ j ≤ c.lo ∧ c.ahead w = (c.lo : Int) - j
                ∧ fadeFactor w live (some p) = 256 - 256 * j / c.lo)
            ∨ ∃ j : Nat, 1 ≤ j ∧ j ≤ c.li ∧ c.ahead w = -(j : Int)
                ∧ fadeFactor w live (some p) = 256 * j / c.li))

/-- The computation of every zone at every strobe (R152, R153, R155, R156, R159, R160, R162), on the new W and the
cues as the arming unit leaves them (R109): ambient, curve target, clamped base, applied base moved by at most the
slew, fade factor, duty and compare buffer. The order operand (log 4) says whether a period handed over at this strobe
is used at once. -/
def Obligations.StrobeComputesZones : Prop :=
  ∀ (i : Instr) (s : State) (o : StrobeOrder) (z : ZoneId) (old : Zone), strobeOf i s = some o →
    old = s.dimmer.zones[z] → old.config.dmin ≤ old.config.dmax →
    ∃ t, ∃ f base period : Nat, exec i s = .next t
      ∧ t.dimmer.zones[z].config = old.config ∧ t.dimmer.zones[z].active = old.active
      ∧ (old.config.sensor = none → f = 64 * old.config.fixedAmbient)
      ∧ (∀ j : SensorId, old.config.sensor = some j →
          f = if s.ambient.sensors[j].state = .unseeded then 64 * old.config.fixedAmbient else s.ambient.sensors[j].f)
      ∧ base = max old.config.dmin (min old.config.dmax (old.config.target f * old.config.trim / 64))
      ∧ ((base : Int) - old.ba ≤ old.config.slew → (old.ba : Int) - base ≤ old.config.slew →
          t.dimmer.zones[z].ba = base)
      ∧ ((old.config.slew : Int) < (base : Int) - old.ba → t.dimmer.zones[z].ba = old.ba + old.config.slew)
      ∧ ((old.config.slew : Int) < (old.ba : Int) - base → t.dimmer.zones[z].ba = old.ba - old.config.slew)
      ∧ t.dimmer.zones[z].g = fadeFactor t.wtb.w t.sched.live old.config.owner
      ∧ t.dimmer.zones[z].d = t.dimmer.zones[z].ba * t.dimmer.zones[z].g / 256
      ∧ t.dimmer.p = (match s.wtb.pending with | some set => set.common.pwmPeriod | none => s.dimmer.p)
      ∧ period = (if o.handoverFirst then t.dimmer.p else s.dimmer.p)
      ∧ t.dimmer.zones[z].buffer = (t.dimmer.zones[z].d * period + 500) / 1000
      ∧ t.dimmer.counter = s.dimmer.counter ∧ t.dimmer.counterPeriod = s.dimmer.counterPeriod
      ∧ t.dimmer.running = s.dimmer.running

/-- A wrap of a running PWM counter (R161, R162): all eight compare buffers become active together, the counter
returns to 0 and the counter period becomes P; an output is high exactly for the counts below its active compare, so
it is low throughout at compare 0 and high throughout at a compare of the counter period or more. No start is due (log
10). -/
def Obligations.WrapLoadsCompares : Prop :=
  ∀ (s : State) (m : Moment), s.NoStartBefore m → s.dimmer.running = true →
    ∃ t, exec (.wrap m) s = .next t ∧ t = { s with dimmer := t.dimmer }
      ∧ t.dimmer.counter = 0 ∧ t.dimmer.counterPeriod = s.dimmer.p ∧ t.dimmer.p = s.dimmer.p
      ∧ t.dimmer.running = true
      ∧ (∀ z : ZoneId, t.dimmer.zones[z] = { s.dimmer.zones[z] with active := s.dimmer.zones[z].buffer })
      ∧ ∀ (z : ZoneId) (count : Nat), count < t.dimmer.counterPeriod →
          (Dimmer.output { t.dimmer with counter := count } z = true ↔ count < t.dimmer.zones[z].active)
          ∧ (t.dimmer.zones[z].active = 0 → Dimmer.output { t.dimmer with counter := count } z = false)
          ∧ (t.dimmer.counterPeriod ≤ t.dimmer.zones[z].active →
              Dimmer.output { t.dimmer with counter := count } z = true)

/-! ### Resets and start-up (chapter 11) -/

/-- Power-on reset and pin reset have the same effect (R169): every block takes its reset values (R18, R36, R70, R91,
R115, R129, R139, R149, R164) and the page is in LOADING with its record and its marker as they stood, after the
starts of messages that come before the reset (R31; log 10). That the record stays also where the reset cuts a save in
its erase or program phase is the model's choice (log 26): the spec calls it part-written and leaves its contents open
(R168). A save in progress has left the marker absent (R168), and so has one that such a start, freeing an edit slot,
has just begun (R73, R167). The levels of CTS and the waiting commands are the outside's (log 9, log 19). -/
def Obligations.ResetsSetEveryBlock : Prop :=
  ∀ (s : State) (m : Moment), ∃ t, exec (.powerOnReset m) s = .next t ∧ exec (.pinReset m) s = .next t
    ∧ t.page = ⟨.loading false, (s.atMoment m).page.record, (s.atMoment m).page.marker⟩
    ∧ t.freeCount = (s.atMoment m).freeCount ∧ t.pending = s.pending
    ∧ (s.NoStartBefore m → t.page = ⟨.loading false, s.page.record, s.page.marker⟩)
    ∧ (∀ snapshot, m = .later → s.startDue.page.state = .saving .erase snapshot → s.page.state = .idle →
        t.page.marker = false)
    ∧ t.wtb.state = .unset ∧ t.wtb.w = 0 ∧ t.wtb.c = 0 ∧ t.wtb.prescaleCount = 0 ∧ t.wtb.timebase = none
    ∧ t.wtb.common = ⟨0, 1, 3, 2000⟩ ∧ t.wtb.pending = none ∧ t.wtb.missRun = 0 ∧ t.wtb.relockRun = 0
    ∧ t.wtb.interval = none ∧ t.wtb.relockFrame = false ∧ t.wtb.glitch = false ∧ t.wtb.postscaler = 0
    ∧ t.wtb.frameHigh = false
    ∧ (∀ p : Port, t.links[p] = ⟨.stopped, .hunting, .stopped, none, ⟨false, false, false, false, false, false⟩, .idle,
        s.links[p].cts⟩ ∧ t.links[p].rtr = false)
    ∧ (∀ p : Port, t.eu.slots[p] = []) ∧ t.eu.state = .idle ∧ t.eu.pointer = 0 ∧ t.eu.lock = false
    ∧ t.sched.live = [] ∧ t.sched.outcomes = [] ∧ (∀ p : Port, t.sched.take[p] = false ∧ t.sched.aborts[p] = [])
    ∧ (∀ p : Port, t.composers[p] = ⟨false, none⟩ ∧ t.watch[p] = ⟨⟨.unused, 0⟩, 0, 0, 0, 0, 0, .unused⟩)
    ∧ t.ambient.sweep = .idle ∧ t.ambient.overrun = false ∧ t.ambient.sweepCount = 0 ∧ t.ambient.filterShift = 3
    ∧ (∀ i : SensorId, t.ambient.sensors[i] = ⟨.unseeded, 0, 0, 0, 0⟩)
    ∧ t.dimmer.p = 2000 ∧ t.dimmer.counterPeriod = 2000 ∧ t.dimmer.counter = 0 ∧ t.dimmer.running = false
    ∧ ∀ z : ZoneId, t.dimmer.zones[z] = ⟨⟨none, none, 512, #v[0, 125, 250, 375, 500, 625, 750, 875, 1000], 64, 0, 1000,
        1000⟩, 0, 256, 0, 0, 0⟩ ∧ t.dimmer.output z = false

/-- The load (R36, R139, R164, R169, R170): it begins once; at its end the page's record, or the defaults without a
marker, reach their blocks; a timebase starts in FREE or SEEKING at W as it is; ports assert RTR and hunt, waiting for
mark where RXD is at space; a port in a capturing mode is IN_STEP and owes a STEP; zones stand at their floor and the
PWM counter runs. No start comes before the event (log 10). -/
def Obligations.LoadStartsThePart : Prop :=
  ∀ (s : State) (rxd : Vector Bool 6) (m : Moment), s.NoStartBefore m →
    (s.page.state = .loading false →
      exec (.loadStart m) s = .next { s with page := { s.page with state := .loading true } })
    ∧ (s.page.state = .loading true → ∀ set : Settings,
      (s.page.marker = true → s.page.record = some set) → (s.page.marker = false → set = Settings.default) →
      ∃ t, exec (.loadEnd rxd m) s = .next t
        ∧ t.page = { s.page with state := .idle } ∧ t.sched = s.sched
        ∧ t.eu = { s.eu with permits := set.permits }
        ∧ t.wtb.common = set.common ∧ t.wtb.w = s.wtb.w
        ∧ (set.timebase = none → t.wtb = { s.wtb with common := set.common })
        ∧ (∀ b, set.timebase = some b → t.wtb.timebase = some b ∧ t.wtb.c = 0
            ∧ t.wtb.state = if b.source = .internal then .free else .seeking)
        ∧ t.ambient = { s.ambient with
            sweepCount := set.common.sweepCount, filterShift := set.common.filterShift }
        ∧ (∀ p : Port, t.links[p] = { s.links[p] with
              receiver := if rxd[p] then .awaitingMark else .ready, rx := .hunting, detector := .measuring }
            ∧ (s.links[p].holding = none → t.links[p].rtr = true)
            ∧ t.watch[p] = ⟨set.echo[p], 0, 0, 0, 0, 0, if set.echo[p].mode = .unused then .unused else .inStep⟩
            ∧ (s.watch[p].status = .unused → t.composers[p] = { s.composers[p] with
                stepOwed := s.composers[p].stepOwed || decide (set.echo[p].mode ≠ .unused) }))
        ∧ (∀ z : ZoneId, t.dimmer.zones[z] = ⟨set.zones[z], set.zones[z].dmin, 256, 0, 0, 0⟩)
        ∧ t.dimmer.p = set.common.pwmPeriod ∧ t.dimmer.counterPeriod = set.common.pwmPeriod ∧ t.dimmer.counter = 0
        ∧ t.dimmer.running = true)

/-! ### Laws that every step keeps -/

/-- The laws of the whole part hold right after power-on reset. -/
def Obligations.ResetIsLawful : Prop :=
  State.reset.Lawful

/-- Every step keeps the laws of the links and of the edit unit and what joins them (R23, R25, R27, R71, R74, R75): at
most two slots a port, one ACTIVE slot exactly while the unit is not IDLE, no edit left QUEUED by an IDLE unit, an
edit waiting only behind two occupied slots. -/
def Obligations.StepKeepsEditLaw : Prop :=
  ∀ s t : State, s.Lawful → step s = .next t → (∀ p : Port, t.links[p].Lawful) ∧ t.eu.Lawful ∧ t.HoldingFull

/-- Every step keeps the law of the schedule (R53, R59, R63, R92, R104, R120): at most 64 cues of different ids in
fire order, no two of them clashing, each in the state that its fire minus W calls for, and every armed port READY. -/
def Obligations.StepKeepsScheduleLaw : Prop :=
  ∀ s t : State, s.Lawful → step s = .next t → t.sched.Lawful t.wtb.w

/-- Every step keeps the laws of the timebase (R2, R3, R8, R10, R14, R17), the phase watch, the ambient sweep and the
zone dimmer (R130, R140, R148, R156, R157), in a lawful part. -/
def Obligations.StepKeepsSignalLaws : Prop :=
  ∀ s t : State, s.Lawful → step s = .next t →
    t.wtb.Lawful ∧ (∀ p : Port, t.watch[p].Lawful) ∧ t.ambient.Lawful ∧ t.dimmer.Lawful

/-- Every step keeps every law of the part: from every lawful state, a step leaves timebase, links, edit unit,
schedule, phase watch, ambient sweep, zone dimmer and settings page in their ranges, and what joins the blocks as it
was. -/
def Obligations.StepKeepsLaws : Prop :=
  ∀ s t : State, s.Lawful → step s = .next t → t.Lawful
end

