-- ==== Sys2Proof/Laws/State.lean ====
section
/-! SUPPORT. The small lemmas of the state updates: for each update, the fields it leaves alone, and what the changed
entry of a vector reads as. -/

namespace Sys2Proof.Machine

/-! ### Entries of vectors -/

@[simp] theorem modifyAt_same {α : Type} {n : Nat} (v : Vector α n) (i : Fin n) (f : α → α) :
    (modifyAt v i f)[i] = f v[i] := by
  simp [modifyAt]

theorem modifyAt_other {α : Type} {n : Nat} (v : Vector α n) {i j : Fin n} (h : j ≠ i) (f : α → α) :
    (modifyAt v i f)[j] = v[j] := by
  simp only [modifyAt, Fin.getElem_fin]
  exact Vector.getElem_set_ne _ _ fun e => h (Fin.ext e.symm)

theorem modifyAt_get {α : Type} {n : Nat} (v : Vector α n) (i j : Fin n) (f : α → α) :
    (modifyAt v i f)[j] = if j = i then f v[j] else v[j] := by
  split
  · next h => subst h; exact modifyAt_same v j f
  · next h => exact modifyAt_other v h f

@[simp] theorem mapAt_get {α β : Type} {n : Nat} (f : Fin n → α → β) (v : Vector α n) (i : Fin n) :
    (mapAt f v)[i] = f i v[i] := by
  simp [mapAt]

theorem set_get {α : Type} {n : Nat} (v : Vector α n) (i j : Fin n) (x : α) :
    (v.set i x)[j] = if j = i then x else v[j] := by
  split
  · next h => subst h; simp
  · next h => simpa using Vector.getElem_set_ne _ _ fun e => h (Fin.ext e.symm)

theorem vector_ext_fin {α : Type} {n : Nat} {v w : Vector α n} (h : ∀ i : Fin n, v[i] = w[i]) : v = w :=
  Vector.ext fun i hi => h ⟨i, hi⟩

/-! ### Sets of ports -/

theorem inMask_maskOf (f : Port → Bool) (p : Port) : inMask (maskOf f) p = f p := by
  have key : ∀ a b c d e g : Bool, ∀ p : Port,
      inMask (maskOf fun q => ([a, b, c, d, e, g] : List Bool).getD q.val false) p
        = ([a, b, c, d, e, g] : List Bool).getD p.val false := by decide
  have hf : f = fun q : Port => ([f 0, f 1, f 2, f 3, f 4, f 5] : List Bool).getD q.val false := by
    funext q
    fin_cases q <;> rfl
  rw [hf]
  exact key _ _ _ _ _ _ p

/-! ### A port's link changed -/

@[simp] theorem modifyLink_wtb (p : Port) (f : Link → Link) (s : State) : (s.modifyLink p f).wtb = s.wtb := rfl

@[simp] theorem modifyLink_eu (p : Port) (f : Link → Link) (s : State) : (s.modifyLink p f).eu = s.eu := rfl

@[simp] theorem modifyLink_sched (p : Port) (f : Link → Link) (s : State) : (s.modifyLink p f).sched = s.sched := rfl

@[simp] theorem modifyLink_composers (p : Port) (f : Link → Link) (s : State) : (s.modifyLink p f).composers = s.composers := rfl

@[simp] theorem modifyLink_watch (p : Port) (f : Link → Link) (s : State) : (s.modifyLink p f).watch = s.watch := rfl

@[simp] theorem modifyLink_ambient (p : Port) (f : Link → Link) (s : State) : (s.modifyLink p f).ambient = s.ambient := rfl

@[simp] theorem modifyLink_dimmer (p : Port) (f : Link → Link) (s : State) : (s.modifyLink p f).dimmer = s.dimmer := rfl

@[simp] theorem modifyLink_page (p : Port) (f : Link → Link) (s : State) : (s.modifyLink p f).page = s.page := rfl

@[simp] theorem modifyLink_pending (p : Port) (f : Link → Link) (s : State) : (s.modifyLink p f).pending = s.pending := rfl

@[simp] theorem modifyLink_freeCount (p : Port) (f : Link → Link) (s : State) : (s.modifyLink p f).freeCount = s.freeCount := rfl

/-! ### A port's edit slots changed -/

@[simp] theorem modifySlots_wtb (p : Port) (f : List EditSlot → List EditSlot) (s : State) : (s.modifySlots p f).wtb = s.wtb := rfl

@[simp] theorem modifySlots_links (p : Port) (f : List EditSlot → List EditSlot) (s : State) : (s.modifySlots p f).links = s.links := rfl

@[simp] theorem modifySlots_sched (p : Port) (f : List EditSlot → List EditSlot) (s : State) : (s.modifySlots p f).sched = s.sched := rfl

@[simp] theorem modifySlots_composers (p : Port) (f : List EditSlot → List EditSlot) (s : State) : (s.modifySlots p f).composers = s.composers := rfl

@[simp] theorem modifySlots_watch (p : Port) (f : List EditSlot → List EditSlot) (s : State) : (s.modifySlots p f).watch = s.watch := rfl

@[simp] theorem modifySlots_ambient (p : Port) (f : List EditSlot → List EditSlot) (s : State) : (s.modifySlots p f).ambient = s.ambient := rfl

@[simp] theorem modifySlots_dimmer (p : Port) (f : List EditSlot → List EditSlot) (s : State) : (s.modifySlots p f).dimmer = s.dimmer := rfl

@[simp] theorem modifySlots_page (p : Port) (f : List EditSlot → List EditSlot) (s : State) : (s.modifySlots p f).page = s.page := rfl

@[simp] theorem modifySlots_pending (p : Port) (f : List EditSlot → List EditSlot) (s : State) : (s.modifySlots p f).pending = s.pending := rfl

@[simp] theorem modifySlots_freeCount (p : Port) (f : List EditSlot → List EditSlot) (s : State) : (s.modifySlots p f).freeCount = s.freeCount := rfl

/-! ### A port's phase watch changed -/

@[simp] theorem setWatch_wtb (p : Port) (e : EchoWatch) (s : State) : (s.setWatch p e).wtb = s.wtb := rfl

@[simp] theorem setWatch_links (p : Port) (e : EchoWatch) (s : State) : (s.setWatch p e).links = s.links := rfl

@[simp] theorem setWatch_eu (p : Port) (e : EchoWatch) (s : State) : (s.setWatch p e).eu = s.eu := rfl

@[simp] theorem setWatch_sched (p : Port) (e : EchoWatch) (s : State) : (s.setWatch p e).sched = s.sched := rfl

@[simp] theorem setWatch_ambient (p : Port) (e : EchoWatch) (s : State) : (s.setWatch p e).ambient = s.ambient := rfl

@[simp] theorem setWatch_dimmer (p : Port) (e : EchoWatch) (s : State) : (s.setWatch p e).dimmer = s.dimmer := rfl

@[simp] theorem setWatch_page (p : Port) (e : EchoWatch) (s : State) : (s.setWatch p e).page = s.page := rfl

@[simp] theorem setWatch_pending (p : Port) (e : EchoWatch) (s : State) : (s.setWatch p e).pending = s.pending := rfl

@[simp] theorem setWatch_freeCount (p : Port) (e : EchoWatch) (s : State) : (s.setWatch p e).freeCount = s.freeCount := rfl

/-! ### A message handed to a transmitter -/

@[simp] theorem transmit_wtb (p : Port) (k : Byte) (r : List Byte) (s : State) : (s.transmit p k r).wtb = s.wtb := rfl

@[simp] theorem transmit_eu (p : Port) (k : Byte) (r : List Byte) (s : State) : (s.transmit p k r).eu = s.eu := rfl

@[simp] theorem transmit_sched (p : Port) (k : Byte) (r : List Byte) (s : State) : (s.transmit p k r).sched = s.sched := rfl

@[simp] theorem transmit_composers (p : Port) (k : Byte) (r : List Byte) (s : State) : (s.transmit p k r).composers = s.composers := rfl

@[simp] theorem transmit_watch (p : Port) (k : Byte) (r : List Byte) (s : State) : (s.transmit p k r).watch = s.watch := rfl

@[simp] theorem transmit_ambient (p : Port) (k : Byte) (r : List Byte) (s : State) : (s.transmit p k r).ambient = s.ambient := rfl

@[simp] theorem transmit_dimmer (p : Port) (k : Byte) (r : List Byte) (s : State) : (s.transmit p k r).dimmer = s.dimmer := rfl

@[simp] theorem transmit_page (p : Port) (k : Byte) (r : List Byte) (s : State) : (s.transmit p k r).page = s.page := rfl

@[simp] theorem transmit_pending (p : Port) (k : Byte) (r : List Byte) (s : State) : (s.transmit p k r).pending = s.pending := rfl

@[simp] theorem transmit_freeCount (p : Port) (k : Byte) (r : List Byte) (s : State) : (s.transmit p k r).freeCount = s.freeCount := rfl

/-! ### A cue notice sent -/

@[simp] theorem cueNoticeSent_wtb (p : Port) (id : Byte) (s : State) : (s.cueNoticeSent p id).wtb = s.wtb := rfl

@[simp] theorem cueNoticeSent_links (p : Port) (id : Byte) (s : State) : (s.cueNoticeSent p id).links = s.links := rfl

@[simp] theorem cueNoticeSent_eu (p : Port) (id : Byte) (s : State) : (s.cueNoticeSent p id).eu = s.eu := rfl

@[simp] theorem cueNoticeSent_composers (p : Port) (id : Byte) (s : State) : (s.cueNoticeSent p id).composers = s.composers := rfl

@[simp] theorem cueNoticeSent_watch (p : Port) (id : Byte) (s : State) : (s.cueNoticeSent p id).watch = s.watch := rfl

@[simp] theorem cueNoticeSent_ambient (p : Port) (id : Byte) (s : State) : (s.cueNoticeSent p id).ambient = s.ambient := rfl

@[simp] theorem cueNoticeSent_dimmer (p : Port) (id : Byte) (s : State) : (s.cueNoticeSent p id).dimmer = s.dimmer := rfl

@[simp] theorem cueNoticeSent_page (p : Port) (id : Byte) (s : State) : (s.cueNoticeSent p id).page = s.page := rfl

@[simp] theorem cueNoticeSent_pending (p : Port) (id : Byte) (s : State) : (s.cueNoticeSent p id).pending = s.pending := rfl

@[simp] theorem cueNoticeSent_freeCount (p : Port) (id : Byte) (s : State) : (s.cueNoticeSent p id).freeCount = s.freeCount := rfl

/-! ### A retired ABORT sent -/

@[simp] theorem retiredAbortSent_wtb (p : Port) (s : State) : (s.retiredAbortSent p).wtb = s.wtb := rfl

@[simp] theorem retiredAbortSent_links (p : Port) (s : State) : (s.retiredAbortSent p).links = s.links := rfl

@[simp] theorem retiredAbortSent_eu (p : Port) (s : State) : (s.retiredAbortSent p).eu = s.eu := rfl

@[simp] theorem retiredAbortSent_composers (p : Port) (s : State) : (s.retiredAbortSent p).composers = s.composers := rfl

@[simp] theorem retiredAbortSent_watch (p : Port) (s : State) : (s.retiredAbortSent p).watch = s.watch := rfl

@[simp] theorem retiredAbortSent_ambient (p : Port) (s : State) : (s.retiredAbortSent p).ambient = s.ambient := rfl

@[simp] theorem retiredAbortSent_dimmer (p : Port) (s : State) : (s.retiredAbortSent p).dimmer = s.dimmer := rfl

@[simp] theorem retiredAbortSent_page (p : Port) (s : State) : (s.retiredAbortSent p).page = s.page := rfl

@[simp] theorem retiredAbortSent_pending (p : Port) (s : State) : (s.retiredAbortSent p).pending = s.pending := rfl

@[simp] theorem retiredAbortSent_freeCount (p : Port) (s : State) : (s.retiredAbortSent p).freeCount = s.freeCount := rfl

/-! ### A strobe -/

@[simp] theorem strobe_links (o : StrobeOrder) (s : State) : (s.strobe o).links = s.links := rfl

@[simp] theorem strobe_eu (o : StrobeOrder) (s : State) : (s.strobe o).eu = s.eu := rfl

@[simp] theorem strobe_page (o : StrobeOrder) (s : State) : (s.strobe o).page = s.page := rfl

@[simp] theorem strobe_pending (o : StrobeOrder) (s : State) : (s.strobe o).pending = s.pending := rfl

@[simp] theorem strobe_freeCount (o : StrobeOrder) (s : State) : (s.strobe o).freeCount = s.freeCount := rfl

/-! ### The end of the load -/

@[simp] theorem loaded_sched (r : Vector Bool 6) (s : State) : (s.loaded r).sched = s.sched := rfl

@[simp] theorem loaded_pending (r : Vector Bool 6) (s : State) : (s.loaded r).pending = s.pending := rfl

@[simp] theorem loaded_freeCount (r : Vector Bool 6) (s : State) : (s.loaded r).freeCount = s.freeCount := rfl

/-! ### A port reset -/

@[simp] theorem portReset_wtb (p : Port) (s : State) : (s.portReset p).wtb = s.wtb := rfl

@[simp] theorem portReset_ambient (p : Port) (s : State) : (s.portReset p).ambient = s.ambient := rfl

@[simp] theorem portReset_dimmer (p : Port) (s : State) : (s.portReset p).dimmer = s.dimmer := rfl

@[simp] theorem portReset_page (p : Port) (s : State) : (s.portReset p).page = s.page := rfl

@[simp] theorem portReset_pending (p : Port) (s : State) : (s.portReset p).pending = s.pending := rfl

@[simp] theorem portReset_freeCount (p : Port) (s : State) : (s.portReset p).freeCount = s.freeCount := rfl

@[simp] theorem resetBlocks_pending (s : State) : s.resetBlocks.pending = s.pending := rfl

@[simp] theorem strobe_wtb_eq (o : StrobeOrder) (s : State) : (s.strobe o).wtb = s.wtb.strobe := rfl

/-! ### The edit unit's fields under a change of slots -/

@[simp] theorem modifySlots_state (p : Port) (f : List EditSlot → List EditSlot) (s : State) :
    (s.modifySlots p f).eu.state = s.eu.state := rfl

@[simp] theorem modifySlots_permits (p : Port) (f : List EditSlot → List EditSlot) (s : State) :
    (s.modifySlots p f).eu.permits = s.eu.permits := rfl

@[simp] theorem modifySlots_lock (p : Port) (f : List EditSlot → List EditSlot) (s : State) :
    (s.modifySlots p f).eu.lock = s.eu.lock := rfl

@[simp] theorem modifySlots_pointer (p : Port) (f : List EditSlot → List EditSlot) (s : State) :
    (s.modifySlots p f).eu.pointer = s.eu.pointer := rfl

theorem modifySlots_get (p q : Port) (f : List EditSlot → List EditSlot) (s : State) :
    (s.modifySlots p f).eu.slots[q] = if q = p then f s.eu.slots[q] else s.eu.slots[q] :=
  modifyAt_get _ _ _ _

theorem modifyLink_get (p q : Port) (f : Link → Link) (s : State) :
    (s.modifyLink p f).links[q] = if q = p then f s.links[q] else s.links[q] :=
  modifyAt_get _ _ _ _

/-! ### Schedule: putCue -/

@[simp] theorem putCue_outcomes (w : Frame) (c : Cue) (s : Schedule) : (s.putCue w c).outcomes = s.outcomes := rfl

@[simp] theorem putCue_take (w : Frame) (c : Cue) (s : Schedule) : (s.putCue w c).take = s.take := rfl

@[simp] theorem putCue_aborts (w : Frame) (c : Cue) (s : Schedule) : (s.putCue w c).aborts = s.aborts := rfl

/-! ### Schedule: updateCue -/

@[simp] theorem updateCue_outcomes (id : Byte) (f : Cue → Cue) (s : Schedule) : (s.updateCue id f).outcomes = s.outcomes := rfl

@[simp] theorem updateCue_take (id : Byte) (f : Cue → Cue) (s : Schedule) : (s.updateCue id f).take = s.take := rfl

@[simp] theorem updateCue_aborts (id : Byte) (f : Cue → Cue) (s : Schedule) : (s.updateCue id f).aborts = s.aborts := rfl

/-! ### Schedule: retire -/

@[simp] theorem retire_take (w : Frame) (c : Cue) (o : CueOutcome) (d : Port → Option AbortReason) (s : Schedule) : (s.retire w c o d).take = s.take := rfl

/-! ### Schedule: assertTake -/

@[simp] theorem assertTake_live (m : PortMask) (s : Schedule) : (s.assertTake m).live = s.live := rfl

@[simp] theorem assertTake_outcomes (m : PortMask) (s : Schedule) : (s.assertTake m).outcomes = s.outcomes := rfl

@[simp] theorem assertTake_aborts (m : PortMask) (s : Schedule) : (s.assertTake m).aborts = s.aborts := rfl

/-! ### Schedule: schedPortReset -/

@[simp] theorem schedPortReset_outcomes (p : Port) (s : Schedule) : (s.portReset p).outcomes = s.outcomes := rfl

@[simp] theorem schedPortReset_take (p : Port) (s : Schedule) : (s.portReset p).take = s.take := rfl

/-! ### Cue: offerTo -/

@[simp] theorem cue_offerTo_id (d : CueNotice) (f : Port → Bool) (c : Cue) : (c.offerTo d f).id = c.id := rfl

@[simp] theorem cue_offerTo_fire (d : CueNotice) (f : Port → Bool) (c : Cue) : (c.offerTo d f).fire = c.fire := rfl

@[simp] theorem cue_offerTo_transition (d : CueNotice) (f : Port → Bool) (c : Cue) : (c.offerTo d f).transition = c.transition := rfl

@[simp] theorem cue_offerTo_lo (d : CueNotice) (f : Port → Bool) (c : Cue) : (c.offerTo d f).lo = c.lo := rfl

@[simp] theorem cue_offerTo_li (d : CueNotice) (f : Port → Bool) (c : Cue) : (c.offerTo d f).li = c.li := rfl

@[simp] theorem cue_offerTo_lead (d : CueNotice) (f : Port → Bool) (c : Cue) : (c.offerTo d f).lead = c.lead := rfl

@[simp] theorem cue_offerTo_margin (d : CueNotice) (f : Port → Bool) (c : Cue) : (c.offerTo d f).margin = c.margin := rfl

@[simp] theorem cue_offerTo_policy (d : CueNotice) (f : Port → Bool) (c : Cue) : (c.offerTo d f).policy = c.policy := rfl

@[simp] theorem cue_offerTo_deferStep (d : CueNotice) (f : Port → Bool) (c : Cue) : (c.offerTo d f).deferStep = c.deferStep := rfl

@[simp] theorem cue_offerTo_maxDeferrals (d : CueNotice) (f : Port → Bool) (c : Cue) : (c.offerTo d f).maxDeferrals = c.maxDeferrals := rfl

@[simp] theorem cue_offerTo_deferralsUsed (d : CueNotice) (f : Port → Bool) (c : Cue) : (c.offerTo d f).deferralsUsed = c.deferralsUsed := rfl

@[simp] theorem cue_offerTo_repeatInterval (d : CueNotice) (f : Port → Bool) (c : Cue) : (c.offerTo d f).repeatInterval = c.repeatInterval := rfl

@[simp] theorem cue_offerTo_repeatCount (d : CueNotice) (f : Port → Bool) (c : Cue) : (c.offerTo d f).repeatCount = c.repeatCount := rfl

@[simp] theorem cue_offerTo_participants (d : CueNotice) (f : Port → Bool) (c : Cue) : (c.offerTo d f).participants = c.participants := rfl

@[simp] theorem cue_offerTo_armed (d : CueNotice) (f : Port → Bool) (c : Cue) : (c.offerTo d f).armed = c.armed := rfl

@[simp] theorem cue_offerTo_state (d : CueNotice) (f : Port → Bool) (c : Cue) : (c.offerTo d f).state = c.state := rfl

/-! ### Cue: mapReadiness -/

@[simp] theorem cue_mapReadiness_id (f : Readiness → Readiness) (c : Cue) : (c.mapReadiness f).id = c.id := rfl

@[simp] theorem cue_mapReadiness_fire (f : Readiness → Readiness) (c : Cue) : (c.mapReadiness f).fire = c.fire := rfl

@[simp] theorem cue_mapReadiness_transition (f : Readiness → Readiness) (c : Cue) : (c.mapReadiness f).transition = c.transition := rfl

@[simp] theorem cue_mapReadiness_lo (f : Readiness → Readiness) (c : Cue) : (c.mapReadiness f).lo = c.lo := rfl

@[simp] theorem cue_mapReadiness_li (f : Readiness → Readiness) (c : Cue) : (c.mapReadiness f).li = c.li := rfl

@[simp] theorem cue_mapReadiness_lead (f : Readiness → Readiness) (c : Cue) : (c.mapReadiness f).lead = c.lead := rfl

@[simp] theorem cue_mapReadiness_margin (f : Readiness → Readiness) (c : Cue) : (c.mapReadiness f).margin = c.margin := rfl

@[simp] theorem cue_mapReadiness_policy (f : Readiness → Readiness) (c : Cue) : (c.mapReadiness f).policy = c.policy := rfl

@[simp] theorem cue_mapReadiness_deferStep (f : Readiness → Readiness) (c : Cue) : (c.mapReadiness f).deferStep = c.deferStep := rfl

@[simp] theorem cue_mapReadiness_maxDeferrals (f : Readiness → Readiness) (c : Cue) : (c.mapReadiness f).maxDeferrals = c.maxDeferrals := rfl

@[simp] theorem cue_mapReadiness_deferralsUsed (f : Readiness → Readiness) (c : Cue) : (c.mapReadiness f).deferralsUsed = c.deferralsUsed := rfl

@[simp] theorem cue_mapReadiness_repeatInterval (f : Readiness → Readiness) (c : Cue) : (c.mapReadiness f).repeatInterval = c.repeatInterval := rfl

@[simp] theorem cue_mapReadiness_repeatCount (f : Readiness → Readiness) (c : Cue) : (c.mapReadiness f).repeatCount = c.repeatCount := rfl

@[simp] theorem cue_mapReadiness_armed (f : Readiness → Readiness) (c : Cue) : (c.mapReadiness f).armed = c.armed := rfl

@[simp] theorem cue_mapReadiness_state (f : Readiness → Readiness) (c : Cue) : (c.mapReadiness f).state = c.state := rfl

@[simp] theorem cue_mapReadiness_notices (f : Readiness → Readiness) (c : Cue) : (c.mapReadiness f).notices = c.notices := rfl

/-! ### Cue: setReadiness -/

@[simp] theorem cue_setReadiness_id (p : Port) (r : Readiness) (c : Cue) : (c.setReadiness p r).id = c.id := rfl

@[simp] theorem cue_setReadiness_fire (p : Port) (r : Readiness) (c : Cue) : (c.setReadiness p r).fire = c.fire := rfl

@[simp] theorem cue_setReadiness_transition (p : Port) (r : Readiness) (c : Cue) : (c.setReadiness p r).transition = c.transition := rfl

@[simp] theorem cue_setReadiness_lo (p : Port) (r : Readiness) (c : Cue) : (c.setReadiness p r).lo = c.lo := rfl

@[simp] theorem cue_setReadiness_li (p : Port) (r : Readiness) (c : Cue) : (c.setReadiness p r).li = c.li := rfl

@[simp] theorem cue_setReadiness_lead (p : Port) (r : Readiness) (c : Cue) : (c.setReadiness p r).lead = c.lead := rfl

@[simp] theorem cue_setReadiness_margin (p : Port) (r : Readiness) (c : Cue) : (c.setReadiness p r).margin = c.margin := rfl

@[simp] theorem cue_setReadiness_policy (p : Port) (r : Readiness) (c : Cue) : (c.setReadiness p r).policy = c.policy := rfl

@[simp] theorem cue_setReadiness_deferStep (p : Port) (r : Readiness) (c : Cue) : (c.setReadiness p r).deferStep = c.deferStep := rfl

@[simp] theorem cue_setReadiness_maxDeferrals (p : Port) (r : Readiness) (c : Cue) : (c.setReadiness p r).maxDeferrals = c.maxDeferrals := rfl

@[simp] theorem cue_setReadiness_deferralsUsed (p : Port) (r : Readiness) (c : Cue) : (c.setReadiness p r).deferralsUsed = c.deferralsUsed := rfl

@[simp] theorem cue_setReadiness_repeatInterval (p : Port) (r : Readiness) (c : Cue) : (c.setReadiness p r).repeatInterval = c.repeatInterval := rfl

@[simp] theorem cue_setReadiness_repeatCount (p : Port) (r : Readiness) (c : Cue) : (c.setReadiness p r).repeatCount = c.repeatCount := rfl

@[simp] theorem cue_setReadiness_armed (p : Port) (r : Readiness) (c : Cue) : (c.setReadiness p r).armed = c.armed := rfl

@[simp] theorem cue_setReadiness_state (p : Port) (r : Readiness) (c : Cue) : (c.setReadiness p r).state = c.state := rfl

@[simp] theorem cue_setReadiness_notices (p : Port) (r : Readiness) (c : Cue) : (c.setReadiness p r).notices = c.notices := rfl

/-! ### Cue: clearOwed -/

@[simp] theorem cue_clearOwed_id (p : Port) (c : Cue) : (c.clearOwed p).id = c.id := rfl

@[simp] theorem cue_clearOwed_fire (p : Port) (c : Cue) : (c.clearOwed p).fire = c.fire := rfl

@[simp] theorem cue_clearOwed_transition (p : Port) (c : Cue) : (c.clearOwed p).transition = c.transition := rfl

@[simp] theorem cue_clearOwed_lo (p : Port) (c : Cue) : (c.clearOwed p).lo = c.lo := rfl

@[simp] theorem cue_clearOwed_li (p : Port) (c : Cue) : (c.clearOwed p).li = c.li := rfl

@[simp] theorem cue_clearOwed_lead (p : Port) (c : Cue) : (c.clearOwed p).lead = c.lead := rfl

@[simp] theorem cue_clearOwed_margin (p : Port) (c : Cue) : (c.clearOwed p).margin = c.margin := rfl

@[simp] theorem cue_clearOwed_policy (p : Port) (c : Cue) : (c.clearOwed p).policy = c.policy := rfl

@[simp] theorem cue_clearOwed_deferStep (p : Port) (c : Cue) : (c.clearOwed p).deferStep = c.deferStep := rfl

@[simp] theorem cue_clearOwed_maxDeferrals (p : Port) (c : Cue) : (c.clearOwed p).maxDeferrals = c.maxDeferrals := rfl

@[simp] theorem cue_clearOwed_deferralsUsed (p : Port) (c : Cue) : (c.clearOwed p).deferralsUsed = c.deferralsUsed := rfl

@[simp] theorem cue_clearOwed_repeatInterval (p : Port) (c : Cue) : (c.clearOwed p).repeatInterval = c.repeatInterval := rfl

@[simp] theorem cue_clearOwed_repeatCount (p : Port) (c : Cue) : (c.clearOwed p).repeatCount = c.repeatCount := rfl

@[simp] theorem cue_clearOwed_participants (p : Port) (c : Cue) : (c.clearOwed p).participants = c.participants := rfl

@[simp] theorem cue_clearOwed_armed (p : Port) (c : Cue) : (c.clearOwed p).armed = c.armed := rfl

@[simp] theorem cue_clearOwed_state (p : Port) (c : Cue) : (c.clearOwed p).state = c.state := rfl

/-! ### Cue: ask -/

@[simp] theorem cue_ask_id (c : Cue) : (c.ask).id = c.id := rfl

@[simp] theorem cue_ask_fire (c : Cue) : (c.ask).fire = c.fire := rfl

@[simp] theorem cue_ask_transition (c : Cue) : (c.ask).transition = c.transition := rfl

@[simp] theorem cue_ask_lo (c : Cue) : (c.ask).lo = c.lo := rfl

@[simp] theorem cue_ask_li (c : Cue) : (c.ask).li = c.li := rfl

@[simp] theorem cue_ask_lead (c : Cue) : (c.ask).lead = c.lead := rfl

@[simp] theorem cue_ask_margin (c : Cue) : (c.ask).margin = c.margin := rfl

@[simp] theorem cue_ask_policy (c : Cue) : (c.ask).policy = c.policy := rfl

@[simp] theorem cue_ask_deferStep (c : Cue) : (c.ask).deferStep = c.deferStep := rfl

@[simp] theorem cue_ask_maxDeferrals (c : Cue) : (c.ask).maxDeferrals = c.maxDeferrals := rfl

@[simp] theorem cue_ask_deferralsUsed (c : Cue) : (c.ask).deferralsUsed = c.deferralsUsed := rfl

@[simp] theorem cue_ask_repeatInterval (c : Cue) : (c.ask).repeatInterval = c.repeatInterval := rfl

@[simp] theorem cue_ask_repeatCount (c : Cue) : (c.ask).repeatCount = c.repeatCount := rfl

@[simp] theorem cue_ask_armed (c : Cue) : (c.ask).armed = c.armed := rfl

/-! ### Cue: arm -/

@[simp] theorem cue_arm_id (m : PortMask) (c : Cue) : (c.arm m).id = c.id := rfl

@[simp] theorem cue_arm_fire (m : PortMask) (c : Cue) : (c.arm m).fire = c.fire := rfl

@[simp] theorem cue_arm_transition (m : PortMask) (c : Cue) : (c.arm m).transition = c.transition := rfl

@[simp] theorem cue_arm_lo (m : PortMask) (c : Cue) : (c.arm m).lo = c.lo := rfl

@[simp] theorem cue_arm_li (m : PortMask) (c : Cue) : (c.arm m).li = c.li := rfl

@[simp] theorem cue_arm_lead (m : PortMask) (c : Cue) : (c.arm m).lead = c.lead := rfl

@[simp] theorem cue_arm_margin (m : PortMask) (c : Cue) : (c.arm m).margin = c.margin := rfl

@[simp] theorem cue_arm_policy (m : PortMask) (c : Cue) : (c.arm m).policy = c.policy := rfl

@[simp] theorem cue_arm_deferStep (m : PortMask) (c : Cue) : (c.arm m).deferStep = c.deferStep := rfl

@[simp] theorem cue_arm_maxDeferrals (m : PortMask) (c : Cue) : (c.arm m).maxDeferrals = c.maxDeferrals := rfl

@[simp] theorem cue_arm_deferralsUsed (m : PortMask) (c : Cue) : (c.arm m).deferralsUsed = c.deferralsUsed := rfl

@[simp] theorem cue_arm_repeatInterval (m : PortMask) (c : Cue) : (c.arm m).repeatInterval = c.repeatInterval := rfl

@[simp] theorem cue_arm_repeatCount (m : PortMask) (c : Cue) : (c.arm m).repeatCount = c.repeatCount := rfl

@[simp] theorem cue_arm_participants (m : PortMask) (c : Cue) : (c.arm m).participants = c.participants := rfl

/-! ### Cue: deferred -/

@[simp] theorem cue_deferred_id (c : Cue) : (c.deferred).id = c.id := rfl

@[simp] theorem cue_deferred_transition (c : Cue) : (c.deferred).transition = c.transition := rfl

@[simp] theorem cue_deferred_lo (c : Cue) : (c.deferred).lo = c.lo := rfl

@[simp] theorem cue_deferred_li (c : Cue) : (c.deferred).li = c.li := rfl

@[simp] theorem cue_deferred_lead (c : Cue) : (c.deferred).lead = c.lead := rfl

@[simp] theorem cue_deferred_margin (c : Cue) : (c.deferred).margin = c.margin := rfl

@[simp] theorem cue_deferred_policy (c : Cue) : (c.deferred).policy = c.policy := rfl

@[simp] theorem cue_deferred_deferStep (c : Cue) : (c.deferred).deferStep = c.deferStep := rfl

@[simp] theorem cue_deferred_maxDeferrals (c : Cue) : (c.deferred).maxDeferrals = c.maxDeferrals := rfl

@[simp] theorem cue_deferred_repeatInterval (c : Cue) : (c.deferred).repeatInterval = c.repeatInterval := rfl

@[simp] theorem cue_deferred_repeatCount (c : Cue) : (c.deferred).repeatCount = c.repeatCount := rfl

@[simp] theorem cue_deferred_armed (c : Cue) : (c.deferred).armed = c.armed := rfl

@[simp] theorem cue_deferred_state (c : Cue) : (c.deferred).state = c.state := rfl

/-! ### Cue: nextRepetition -/

@[simp] theorem cue_nextRepetition_id (c : Cue) (f : Frame) : (c.nextRepetition f).id = c.id := rfl

@[simp] theorem cue_nextRepetition_transition (c : Cue) (f : Frame) : (c.nextRepetition f).transition = c.transition := rfl

@[simp] theorem cue_nextRepetition_lo (c : Cue) (f : Frame) : (c.nextRepetition f).lo = c.lo := rfl

@[simp] theorem cue_nextRepetition_li (c : Cue) (f : Frame) : (c.nextRepetition f).li = c.li := rfl

@[simp] theorem cue_nextRepetition_lead (c : Cue) (f : Frame) : (c.nextRepetition f).lead = c.lead := rfl

@[simp] theorem cue_nextRepetition_margin (c : Cue) (f : Frame) : (c.nextRepetition f).margin = c.margin := rfl

@[simp] theorem cue_nextRepetition_policy (c : Cue) (f : Frame) : (c.nextRepetition f).policy = c.policy := rfl

@[simp] theorem cue_nextRepetition_deferStep (c : Cue) (f : Frame) : (c.nextRepetition f).deferStep = c.deferStep := rfl

@[simp] theorem cue_nextRepetition_maxDeferrals (c : Cue) (f : Frame) : (c.nextRepetition f).maxDeferrals = c.maxDeferrals := rfl

@[simp] theorem cue_nextRepetition_repeatInterval (c : Cue) (f : Frame) : (c.nextRepetition f).repeatInterval = c.repeatInterval := rfl

end Sys2Proof.Machine
end

