-- ==== Sys2Proof/Laws/CueTable.lean ====
section
/-! SUPPORT. What the operations of the cue table can do: fire order, records stored, removed and looked up, the clash test,
the examination of one cue, and a retirement. -/

namespace Sys2Proof.Machine

/-! ### Fire order -/

theorem insertCue_perm (w : Frame) (c : Cue) (l : List Cue) : (insertCue w c l).Perm (c :: l) := by
  induction l with
  | nil => exact .refl _
  | cons x xs ih =>
    simp only [insertCue]
    split
    · exact .refl _
    · exact (ih.cons x).trans (.swap c x xs)

@[simp] theorem mem_insertCue (w : Frame) (c d : Cue) (l : List Cue) : d ∈ insertCue w c l ↔ d = c ∨ d ∈ l := by
  simp [(insertCue_perm w c l).mem_iff]

@[simp] theorem length_insertCue (w : Frame) (c : Cue) (l : List Cue) : (insertCue w c l).length = l.length + 1 := by
  simp [(insertCue_perm w c l).length_eq]

theorem before_iff (w : Frame) (a b : Cue) :
    a.before w b = true ↔ a.ahead w < b.ahead w ∨ a.ahead w = b.ahead w ∧ a.id.toNat < b.id.toNat := by
  simp [Cue.before]

theorem before_trans (w : Frame) {a b c : Cue} (hab : a.before w b = true) (hbc : b.before w c = true) :
    a.before w c = true := by
  rw [before_iff] at *; omega

/-- Two cues of different ids stand in one order or the other. -/
theorem before_total (w : Frame) {a b : Cue} (h : a.id ≠ b.id) (hab : a.before w b ≠ true) : b.before w a = true := by
  have hn : a.id.toNat ≠ b.id.toNat := fun e => h (BitVec.eq_of_toNat_eq e)
  rw [Ne, before_iff] at hab
  rw [before_iff]; omega

/-- A cue placed in a table in fire order leaves it in fire order (R59). -/
theorem insertCue_sorted (w : Frame) (c : Cue) (l : List Cue) (hl : l.Pairwise fun a b => a.before w b = true)
    (hid : ∀ d ∈ l, d.id ≠ c.id) : (insertCue w c l).Pairwise fun a b => a.before w b = true := by
  induction l with
  | nil => simp [insertCue]
  | cons x xs ih =>
    rw [List.pairwise_cons] at hl
    simp only [insertCue]
    split
    · next h =>
      refine List.pairwise_cons.2 ⟨fun d hd => ?_, List.pairwise_cons.2 hl⟩
      rcases List.mem_cons.1 hd with rfl | hd
      · exact h
      · exact before_trans w h (hl.1 d hd)
    · next h =>
      refine List.pairwise_cons.2 ⟨fun d hd => ?_, ih hl.2 fun d hd => hid d (List.mem_cons_of_mem _ hd)⟩
      rcases (mem_insertCue w c d xs).1 hd with rfl | hd
      · exact before_total w (Ne.symm (hid x List.mem_cons_self)) h
      · exact hl.1 d hd

/-! ### Records -/

@[simp] theorem mem_removeCue (id : Byte) (d : Cue) (l : List Cue) : d ∈ removeCue id l ↔ d ∈ l ∧ d.id ≠ id := by
  simp [removeCue]

theorem removeCue_sublist (id : Byte) (l : List Cue) : (removeCue id l).Sublist l :=
  List.filter_sublist

theorem mem_putCue (w : Frame) (c d : Cue) (s : Schedule) :
    d ∈ (s.putCue w c).live ↔ d = c ∨ d ∈ s.live ∧ d.id ≠ c.id := by
  simp [Schedule.putCue]

theorem putCue_sorted (w : Frame) (c : Cue) (s : Schedule) (h : s.live.Pairwise fun a b => a.before w b = true) :
    (s.putCue w c).live.Pairwise fun a b => a.before w b = true :=
  insertCue_sorted w c _ (h.sublist (removeCue_sublist c.id s.live)) fun _ hd => ((mem_removeCue _ _ _).1 hd).2

theorem findCue_mem {id : Byte} {c : Cue} {l : List Cue} (h : findCue id l = some c) : c ∈ l ∧ c.id = id :=
  ⟨List.mem_of_find?_eq_some h, by simpa using List.find?_some h⟩

theorem findCue_none {id : Byte} {l : List Cue} : findCue id l = none ↔ ∀ c ∈ l, c.id ≠ id := by
  simp [findCue]

/-- In a table of different ids the lookup finds the live cue of the id (R65). -/
theorem findCue_eq {c : Cue} {l : List Cue} (hl : (l.map (·.id)).Nodup) (hc : c ∈ l) : findCue c.id l = some c := by
  induction l with
  | nil => simp at hc
  | cons x xs ih =>
    simp only [List.map_cons, List.nodup_cons, List.mem_map, not_exists, not_and] at hl
    rcases List.mem_cons.1 hc with rfl | hc
    · simp [findCue]
    · have hx : x.id ≠ c.id := fun e => hl.1 c hc e.symm
      have hf := ih hl.2 hc
      simp only [findCue] at hf ⊢
      rw [List.find?_cons_of_neg (by simpa using hx)]
      exact hf

theorem mem_updateCue (id : Byte) (f : Cue → Cue) (d : Cue) (s : Schedule) :
    d ∈ (s.updateCue id f).live ↔ ∃ c ∈ s.live, (if c.id = id then f c else c) = d := by
  simp [Schedule.updateCue]

/-- A change that keeps ids keeps the list of ids. -/
theorem updateCue_ids (id : Byte) (f : Cue → Cue) (s : Schedule) (hf : ∀ c, (f c).id = c.id) :
    (s.updateCue id f).live.map (·.id) = s.live.map (·.id) := by
  simp only [Schedule.updateCue, List.map_map]
  refine List.map_congr_left fun c _ => ?_
  simp only [Function.comp]
  split
  · exact hf c
  · rfl

/-! ### Ports -/

theorem hasPort_iff (c : Cue) (p : Port) : c.hasPort p = true ↔ ∃ x ∈ c.participants, x.port = p := by
  simp [Cue.hasPort]

theorem clashes_iff (live : List Cue) (ports : Port → Bool) (f : Frame) :
    clashes live ports f = true ↔ ∃ c ∈ live, c.fire = f ∧ ∃ x ∈ c.participants, ports x.port = true := by
  simp [clashes]

@[simp] theorem inMask_portMask (c : Cue) (p : Port) : inMask c.portMask p = c.hasPort p := by
  simp [Cue.portMask, inMask_maskOf]

/-! ### Transitions -/

/-- Everything the examination of a cue at a strobe can do (R95). -/
theorem examine_cases (w : Frame) (status : Vector StepStatus 6) (c : Cue) (s : Schedule) :
    s.examine w status c = s
      ∨ c.state = .waiting ∧ c.ahead w = c.lead ∧ s.examine w status c = s.putCue w c.ask
      ∨ c.state = .asking ∧ c.ahead w = c.margin ∧ s.examine w status c = s.deadline w status c
      ∨ c.state = .armed ∧ c.ahead w = 0 ∧ s.examine w status c = s.takeCue w c
      ∨ c.state = .taken ∧ c.ahead w = -(c.li : Int)
        ∧ s.examine w status c = s.retire w c c.takeOutcome fun _ => none := by
  unfold Schedule.examine
  cases h : c.state <;> simp only <;> split <;> simp_all

/-- Everything a deadline can do (R99 to R103). -/
theorem deadline_cases (w : Frame) (status : Vector StepStatus 6) (c : Cue) (s : Schedule) :
    (∀ x ∈ c.participants, x.good status = true) ∧ s.deadline w status c = s.putCue w (c.arm c.portMask)
      ∨ c.policy = .defer ∧ c.deferralsUsed < c.maxDeferrals ∧ s.deadline w status c = s.deferCue w c
      ∨ c.policy = .partialTake ∧ (∃ x ∈ c.participants, x.good status = true)
        ∧ s.deadline w status c = s.putCue w (c.arm (maskOf (c.goodPort status)))
      ∨ s.deadline w status c = s.failCue w c := by
  unfold Schedule.deadline
  split
  · next h => exact .inl ⟨by simpa using h, rfl⟩
  · cases h : c.policy <;> simp only
    · split <;> simp_all
    · split
      · next h => exact .inr (.inr (.inl ⟨by simp, by simpa using h, rfl⟩))
      · simp
    · simp

/-- Everything a retirement leaves of the schedule (R108). -/
theorem retire_live (w : Frame) (c : Cue) (outcome : CueOutcome) (duty : Port → Option AbortReason) (s : Schedule) :
    (s.retire w c outcome duty).live = removeCue c.id s.live
      ∨ ∃ f, c.continuation (removeCue c.id s.live) outcome.isTake = .rescheduled f
        ∧ (s.retire w c outcome duty).live = insertCue w ((c.nextRepetition f).enter w) (removeCue c.id s.live) := by
  simp only [Schedule.retire, repeatInto]
  split
  · next h => exact .inr ⟨_, h, rfl⟩
  all_goals exact .inl rfl

theorem retire_aborts (w : Frame) (c : Cue) (outcome : CueOutcome) (duty : Port → Option AbortReason)
    (s : Schedule) (p : Port) : (s.retire w c outcome duty).aborts[p]
      = match c.notices[p].settle (duty p) with
        | some r => appendCapped s.aborts[p] ⟨c.id, r⟩
        | none => s.aborts[p] := by
  refine (mapAt_get _ s.aborts p).trans ?_
  cases c.notices[p].settle (duty p) <;> rfl

/-- A list kept at its newest 16 entries never grows beyond them (R66, R120). -/
theorem appendCapped_length {α : Type} (l : List α) (x : α) : (appendCapped l x).length ≤ listCap := by
  simp only [appendCapped, List.length_drop, List.length_append, List.length_singleton]
  omega

/-! ### Duties -/

@[simp] theorem offerTo_notices (duty : CueNotice) (dest : Port → Bool) (c : Cue) (p : Port) :
    (c.offerTo duty dest).notices[p] = if dest p then c.notices[p].offer duty else c.notices[p] := by
  rw [show (c.offerTo duty dest).notices = mapAt (fun p n => if dest p then n.offer duty else n) c.notices from rfl,
    mapAt_get]

theorem enter_cases (w : Frame) (c : Cue) :
    (c.lead : Int) < c.ahead w ∧ c.enter w = { c with state := .waiting }
      ∨ c.ahead w ≤ c.lead ∧ c.enter w = c.ask := by
  unfold Cue.enter
  split
  · next h => exact .inl ⟨h, rfl⟩
  · next h => exact .inr ⟨Int.not_lt.1 h, rfl⟩

@[simp] theorem enter_id (w : Frame) (c : Cue) : (c.enter w).id = c.id := by
  rcases enter_cases w c with ⟨_, h⟩ | ⟨_, h⟩ <;> simp [h]

@[simp] theorem enter_fire (w : Frame) (c : Cue) : (c.enter w).fire = c.fire := by
  rcases enter_cases w c with ⟨_, h⟩ | ⟨_, h⟩ <;> simp [h]

end Sys2Proof.Machine
end

