-- ==== Sys2Proof/Laws/EditUnit.lean ====
section
/-! SUPPORT. What the shared operations of the edit unit, the links and the composers can do: the arbiter, the move out of the
holding slot, a completion, the delivery of a message, a port reset, the sending of a notice, the starts that are due, and the
moment of an event. -/

namespace Sys2Proof.Machine

/-! ### The arbiter and the slots -/

/-- Everything the arbiter can do (R74, R75, R88). -/
theorem arbitrate_cases (s : State) :
    s.arbitrate = s
      ∨ ∃ p slot, s.eu.state = .idle ∧ s.eu.nextPort = some p ∧ headOf s.eu.slots[p] = some slot
        ∧ (s.eu.startsSave p slot = true ∧ s.arbitrate = { s with
              eu := { s.eu with
                slots := modifyAt s.eu.slots p activateHead, pointer := p + 1, state := .storing }
              page := s.page.beginSave s.settings }
          ∨ s.eu.startsSave p slot = false ∧ s.arbitrate = { s with
              eu := { s.eu with
                slots := modifyAt s.eu.slots p activateHead, pointer := p + 1, state := .working } }) := by
  unfold State.arbitrate
  split
  · next hi =>
    split
    · exact .inl rfl
    · next p hp =>
      split
      · exact .inl rfl
      · next slot hs =>
        refine .inr ⟨p, slot, hi, hp, hs, ?_⟩
        split
        · next h => exact .inl ⟨h, rfl⟩
        · next h => exact .inr ⟨by simpa using h, rfl⟩
  · exact .inl rfl

/-- The arbiter of a unit that is not IDLE does nothing. -/
theorem arbitrate_busy (s : State) (h : s.eu.state ≠ .idle) : s.arbitrate = s := by
  simp [State.arbitrate, h]

/-- The arbiter changes the edit unit and the settings page alone. -/
theorem arbitrate_frame (s : State) : s.arbitrate = { s with eu := s.arbitrate.eu, page := s.arbitrate.page } := by
  rcases arbitrate_cases s with h | ⟨p, slot, _, _, _, ⟨_, h⟩ | ⟨_, h⟩⟩ <;> rw [h]

/-- Everything the move out of the holding slot can do (R27). -/
theorem refill_cases (p : Port) (s : State) :
    s.refill p = s
      ∨ ∃ m, s.links[p].holding = some m ∧ s.eu.slots[p].length < slotCount
        ∧ s.refill p = (s.modifySlots p (enqueue m)).modifyLink p fun l => { l with holding := none } := by
  unfold State.refill
  split
  · exact .inl rfl
  · next m hm =>
    split
    · next h => exact .inr ⟨m, hm, h, rfl⟩
    · exact .inl rfl

/-- The move out of the holding slot changes the links and the edit slots alone. -/
theorem refill_frame (p : Port) (s : State) :
    s.refill p = { s with links := (s.refill p).links, eu := { s.eu with slots := (s.refill p).eu.slots } } := by
  rcases refill_cases p s with h | ⟨m, _, _, h⟩
  · rw [h]
  · rw [h]; rfl

/-- A completion changes the links, the edit unit and the settings page alone. -/
theorem finishEdit_frame (p : Port) (outcome : EditOutcome) (s : State) :
    s.finishEdit p outcome = { s with
      links := (s.finishEdit p outcome).links
      eu := (s.finishEdit p outcome).eu
      page := (s.finishEdit p outcome).page } := by
  rw [State.finishEdit, arbitrate_frame, refill_frame]
  rfl

/-- Everything the completion of an ordinary edit can do (R76). -/
theorem complete_cases (kind : RequestKind) (outcome : Port → Message → State → EditOutcome)
    (apply : Port → Message → State → State) (s : State) :
    s.complete kind outcome apply = s
      ∨ ∃ p slot, s.eu.state = .working ∧ s.eu.active = some (p, slot) ∧ Message.kind slot.edit = some kind
        ∧ (outcome p slot.edit s = .accepted
            ∧ s.complete kind outcome apply = (apply p slot.edit s).finishEdit p .accepted
          ∨ outcome p slot.edit s ≠ .accepted
            ∧ s.complete kind outcome apply = s.finishEdit p (outcome p slot.edit s)) := by
  unfold State.complete
  split
  · next hw =>
    split
    · exact .inl rfl
    · next p slot ha =>
      split
      · next hk =>
        refine .inr ⟨p, slot, hw, ha, hk, ?_⟩
        split
        · next h => exact .inl ⟨h, rfl⟩
        · next h => exact .inr ⟨h, rfl⟩
      · exact .inl rfl
  · exact .inl rfl

/-- The completion of the edit that is being worked on. -/
theorem complete_active {kind : RequestKind} {outcome : Port → Message → State → EditOutcome}
    {apply : Port → Message → State → State} {s : State} {p : Port} {slot : EditSlot}
    (hw : s.eu.state = .working) (ha : s.eu.active = some (p, slot)) (hk : Message.kind slot.edit = some kind) :
    s.complete kind outcome apply
      = if outcome p slot.edit s = .accepted then (apply p slot.edit s).finishEdit p .accepted
        else s.finishEdit p (outcome p slot.edit s) := by
  simp [State.complete, hw, ha, hk]

/-! ### Links -/

/-- Everything a character can do to its port (R21 to R24). -/
theorem link_receive_cases (ch : LineChar) (l : Link) :
    l.receiver ≠ .ready ∧ l.receive ch = (l, none)
      ∨ l.receiver = .ready ∧ goodChar ch = false ∧ l.receive ch = (l.badCharacter ch, none)
      ∨ l.receiver = .ready ∧ goodChar ch = true ∧ ch.mark = true ∧ l.receive ch = (l.markCharacter ch.data, none)
      ∨ l.receiver = .ready ∧ goodChar ch = true ∧ ch.mark = false ∧ l.receive ch = l.dataCharacter ch.data := by
  unfold Link.receive
  cases h : l.receiver <;> simp
  cases goodChar ch <;> cases ch.mark <;> simp

/-- Everything an answer can do (R96, R98). -/
theorem answer_cases (p : Port) (id : Byte) (entry : Cue → Readiness) (s : State) :
    s.sched.takesAnswer id p = true ∧ s.answer p id entry
        = { s with sched := s.sched.updateCue id fun c => c.setReadiness p (entry c) }
      ∨ s.sched.straysAnswer id p = true ∧ s.answer p id entry
        = s.modifyLink p (fun l => { l with flags := { l.flags with stray := true } })
      ∨ s.answer p id entry = s := by
  unfold State.answer
  split
  · next h => exact .inl ⟨h, rfl⟩
  · split
    · next h => exact .inr (.inl ⟨h, rfl⟩)
    · exact .inr (.inr rfl)

/-- Everything the delivery of a message can do (R25). -/
theorem deliver_cases (p : Port) (m : Message) (s : State) :
    s.links[p].holding.isSome = true ∧ s.deliver p m
        = s.modifyLink p (fun l => { l with flags := { l.flags with overrun := true } })
      ∨ s.links[p].holding = none ∧ s.deliver p m = s.dispatch p m := by
  unfold State.deliver
  split
  · next h => exact .inl ⟨h, rfl⟩
  · next h => exact .inr ⟨by simpa using h, rfl⟩

/-- A character changes links, edit unit, schedule, composers and settings page at most. -/
theorem receive_frame (p : Port) (ch : LineChar) (s : State) :
    s.receive p ch = { s with
      links := (s.receive p ch).links
      eu := (s.receive p ch).eu
      sched := (s.receive p ch).sched
      composers := (s.receive p ch).composers
      page := (s.receive p ch).page } := by
  have place : ∀ (m : Message) (u : State), u.placeEdit p m = { u with
      links := (u.placeEdit p m).links, eu := (u.placeEdit p m).eu, page := (u.placeEdit p m).page } := by
    intro m u
    unfold State.placeEdit
    split
    · rw [arbitrate_frame]; rfl
    · rfl
  have ans : ∀ (id : Byte) (entry : Cue → Readiness) (u : State), u.answer p id entry = { u with
      links := (u.answer p id entry).links, sched := (u.answer p id entry).sched } := by
    intro id entry u
    rcases answer_cases p id entry u with ⟨_, h⟩ | ⟨_, h⟩ | h <;> rw [h]
    rfl
  unfold State.receive
  simp only
  split
  · rfl
  · next m _ =>
    rcases deliver_cases p m { s with links := s.links.set p (s.links[p].receive ch).1 } with ⟨_, h⟩ | ⟨_, h⟩
    · rw [h]; rfl
    · rw [h]
      unfold State.dispatch
      split
      · rfl
      · rw [ans]
      · rw [ans]
      · rfl
      all_goals rw [place]

/-! ### Composers -/

/-- A composer that sends has an IDLE transmitter with CTS asserted (R31), and a notice that it chose (R124). -/
theorem chosen_iff (p : Port) (s : State) (x : Choice) :
    s.chosen p = some x ↔ s.links[p].tx = .idle ∧ s.links[p].cts = true ∧ s.choose p = some x := by
  simp [State.chosen, State.canSend, and_assoc]

/-- What a sending can change: links, edit unit, schedule, composers, settings page, the free value counter, and the two
flags that a WALL report clears (R13, R46). -/
theorem send_frame (p : Port) (x : Choice) (s : State) :
    s.send p x = { s with
      wtb := { s.wtb with glitch := (s.send p x).wtb.glitch }
      links := (s.send p x).links
      eu := (s.send p x).eu
      sched := (s.send p x).sched
      composers := (s.send p x).composers
      ambient := { s.ambient with overrun := (s.send p x).ambient.overrun }
      page := (s.send p x).page
      freeCount := (s.send p x).freeCount } := by
  cases x with
  | editResult slot outcome =>
    simp only [State.send]
    rw [arbitrate_frame, refill_frame]
    rfl
  | report subject index =>
    simp only [State.send, State.reportEffects]
    cases subjectOf subject index with
    | none => rfl
    | some subj => cases subj <;> rfl
  | _ => rfl

/-- Everything that the start of a message on a port can do (R31). -/
theorem startOn_cases (p : Port) (s : State) :
    s.chosen p = none ∧ s.startOn p = s ∨ ∃ x, s.chosen p = some x ∧ s.startOn p = s.send p x := by
  unfold State.startOn
  cases h : s.chosen p with
  | none => exact .inl ⟨rfl, rfl⟩
  | some x => exact .inr ⟨x, rfl, rfl⟩

/-- What the start of a message on a port can change. -/
theorem startOn_frame (p : Port) (s : State) :
    s.startOn p = { s with
      wtb := { s.wtb with glitch := (s.startOn p).wtb.glitch }
      links := (s.startOn p).links
      eu := (s.startOn p).eu
      sched := (s.startOn p).sched
      composers := (s.startOn p).composers
      ambient := { s.ambient with overrun := (s.startOn p).ambient.overrun }
      page := (s.startOn p).page
      freeCount := (s.startOn p).freeCount } := by
  rcases startOn_cases p s with ⟨_, h⟩ | ⟨x, _, h⟩
  · rw [h]
  · rw [h]; exact send_frame p x s

/-- A property that every start keeps is kept by all the starts that are due. -/
theorem startDue_induction {P : State → Prop} (step : ∀ (p : Port) (u : State), P u → P (u.startOn p)) {s : State}
    (h : P s) : P s.startDue := by
  have key : ∀ (ps : List Port) (u : State), P u → P (ps.foldl (fun t p => t.startOn p) u) := by
    intro ps
    induction ps with
    | nil => exact fun u hu => hu
    | cons p ps ih => exact fun u hu => ih _ (step p u hu)
  exact key allPorts s h

/-- What the starts that are due can change. -/
theorem startDue_frame (s : State) :
    s.startDue = { s with
      wtb := { s.wtb with glitch := s.startDue.wtb.glitch }
      links := s.startDue.links
      eu := s.startDue.eu
      sched := s.startDue.sched
      composers := s.startDue.composers
      ambient := { s.ambient with overrun := s.startDue.ambient.overrun }
      page := s.startDue.page
      freeCount := s.startDue.freeCount } := by
  refine startDue_induction (P := fun u => u = { s with
      wtb := { s.wtb with glitch := u.wtb.glitch }
      links := u.links, eu := u.eu, sched := u.sched, composers := u.composers
      ambient := { s.ambient with overrun := u.ambient.overrun }
      page := u.page, freeCount := u.freeCount }) (fun p u hu => ?_) rfl
  rw [startOn_frame p u]
  generalize u.startOn p = v
  rw [hu]

@[simp] theorem startDue_watch (s : State) : s.startDue.watch = s.watch := by rw [startDue_frame]

@[simp] theorem startDue_dimmer (s : State) : s.startDue.dimmer = s.dimmer := by rw [startDue_frame]

@[simp] theorem startDue_pending (s : State) : s.startDue.pending = s.pending := by rw [startDue_frame]

theorem startDue_wtb (s : State) : s.startDue.wtb = { s.wtb with glitch := s.startDue.wtb.glitch } := by
  conv_lhs => rw [startDue_frame]

/-- With no start due the starts that are due change nothing. -/
theorem startDue_settled {s : State} (h : ∀ p : Port, s.chosen p = none) : s.startDue = s :=
  startDue_induction (P := fun u => u = s) (fun p u hu => by subst hu; simp [State.startOn, h p]) rfl

/-! ### The moment of an event -/

@[simp] theorem atMoment_together (s : State) : s.atMoment .together = s := rfl

@[simp] theorem atMoment_later (s : State) : s.atMoment .later = s.startDue := rfl

@[simp] theorem atMoment_watch (m : Moment) (s : State) : (s.atMoment m).watch = s.watch := by cases m <;> simp

@[simp] theorem atMoment_dimmer (m : Moment) (s : State) : (s.atMoment m).dimmer = s.dimmer := by cases m <;> simp

@[simp] theorem atMoment_pending (m : Moment) (s : State) : (s.atMoment m).pending = s.pending := by cases m <;> simp

/-- What the starts before an event can change. -/
theorem atMoment_frame (m : Moment) (s : State) :
    s.atMoment m = { s with
      wtb := { s.wtb with glitch := (s.atMoment m).wtb.glitch }
      links := (s.atMoment m).links
      eu := (s.atMoment m).eu
      sched := (s.atMoment m).sched
      composers := (s.atMoment m).composers
      ambient := { s.ambient with overrun := (s.atMoment m).ambient.overrun }
      page := (s.atMoment m).page
      freeCount := (s.atMoment m).freeCount } := by
  cases m with
  | together => rfl
  | later => exact startDue_frame s

theorem atMoment_wtb (m : Moment) (s : State) :
    (s.atMoment m).wtb = { s.wtb with glitch := (s.atMoment m).wtb.glitch } := by
  cases m with
  | together => rfl
  | later => exact startDue_wtb s

/-- With no start before its moment an event finds the state as it stands. -/
theorem atMoment_noStart {s : State} {m : Moment} (h : m = .later → ∀ p : Port, s.chosen p = none) : s.atMoment m = s := by
  cases m with
  | together => rfl
  | later => exact startDue_settled (h rfl)

/-- With no start before its moment an event is what it does to the state as it stands. -/
theorem event_noStart {s : State} {m : Moment} (h : m = .later → ∀ p : Port, s.chosen p = none) (f : State → State) :
    s.event m f = .next (f s) := by
  rw [State.event, atMoment_noStart h]

end Sys2Proof.Machine
end

