-- ==== Sys2Proof/WellFormed.lean ====
section
/-! DEFINITION. Which commands are well formed: their operands lie in the ranges the spec gives. Ports are
well formed by their type. -/

namespace Sys2Proof

/-- The largest count any frame reaches, 2N + N/8 at N = 65535 (R3). -/
def maxFrameCount : Nat := 139261

/-- A conversion gives 0 to 1023 (R140); no event of the frame timer lies further from the last one than the largest
count of a frame (R3). Every other operand takes any value. -/
def Instr.wellFormed : Instr → Bool
  | .conversionEnd sample _ => decide (sample ≤ 1023)
  | .referenceEdge ticks _ => decide (ticks ≤ maxFrameCount)
  | .echoEdge _ ticks _ => decide (ticks ≤ maxFrameCount)
  | .powerOnReset _ => true
  | .pinReset _ => true
  | .loadStart _ => true
  | .loadEnd _ _ => true
  | .freeRunningStrobe _ => true
  | .lateLimitStrobe _ => true
  | .relockFrameLimit _ => true
  | .intervalTooLong _ => true
  | .framePulseEnd _ => true
  | .receivedCharacter _ _ _ => true
  | .editArrival _ _ _ => true
  | .ready _ _ _ => true
  | .unready _ _ _ => true
  | .query _ _ _ => true
  | .lineBreak _ _ => true
  | .ctsAsserted _ _ _ => true
  | .messageEnd _ _ => true
  | .prepare _ => true
  | .defer _ => true
  | .commit _ => true
  | .abort _ => true
  | .editResult _ => true
  | .report _ => true
  | .step _ => true
  | .cuePut _ => true
  | .cueDrop _ => true
  | .zoneSet _ => true
  | .wallSet _ => true
  | .phaseSet _ => true
  | .permit _ => true
  | .lock _ => true
  | .save _ => true
  | .erase _ => true
  | .program _ => true
  | .check _ _ => true
  | .wrap _ => true
  | .returnToMark _ _ => true
  | .stopBitEnd _ _ => true

end Sys2Proof
end

