-- ==== Sys2Proof/Laws/PerInstr.lean ====
section
/-! SUPPORT. The per-command family WellFormedOperands: which operands are well formed, one lemma for each command. -/

namespace Sys2Proof.Laws.WellFormedOperands

/-- A command is well formed exactly when a conversion result it carries is at most 1023 (R140) and the ticks it carries are at
most 139261, the largest count of any frame (R3, R12). -/
def Statement (i : Instr) : Prop :=
  i.wellFormed = true ↔
    (∀ a m, i = .conversionEnd a m → a ≤ 1023)
      ∧ (∀ ticks o, i = .referenceEdge ticks o → ticks ≤ 139261)
      ∧ ∀ p ticks m, i = .echoEdge p ticks m → ticks ≤ 139261

theorem powerOnReset (m : Moment) : Statement (.powerOnReset m) := by
  simp [Statement, Instr.wellFormed]

theorem pinReset (m : Moment) : Statement (.pinReset m) := by
  simp [Statement, Instr.wellFormed]

theorem loadStart (m : Moment) : Statement (.loadStart m) := by
  simp [Statement, Instr.wellFormed]

theorem loadEnd (rxd : Vector Bool 6) (m : Moment) : Statement (.loadEnd rxd m) := by
  simp [Statement, Instr.wellFormed]

theorem freeRunningStrobe (o : StrobeOrder) : Statement (.freeRunningStrobe o) := by
  simp [Statement, Instr.wellFormed]

theorem referenceEdge (ticks : Nat) (o : StrobeOrder) : Statement (.referenceEdge ticks o) := by
  simp [Statement, Instr.wellFormed, show maxFrameCount = 139261 from rfl]

theorem lateLimitStrobe (o : StrobeOrder) : Statement (.lateLimitStrobe o) := by
  simp [Statement, Instr.wellFormed]

theorem relockFrameLimit (o : StrobeOrder) : Statement (.relockFrameLimit o) := by
  simp [Statement, Instr.wellFormed]

theorem intervalTooLong (m : Moment) : Statement (.intervalTooLong m) := by
  simp [Statement, Instr.wellFormed]

theorem framePulseEnd (m : Moment) : Statement (.framePulseEnd m) := by
  simp [Statement, Instr.wellFormed]

theorem receivedCharacter (p : Port) (ch : LineChar) (m : Moment) : Statement (.receivedCharacter p ch m) := by
  simp [Statement, Instr.wellFormed]

theorem editArrival (p : Port) (b : Byte) (m : Moment) : Statement (.editArrival p b m) := by
  simp [Statement, Instr.wellFormed]

theorem ready (p : Port) (b : Byte) (m : Moment) : Statement (.ready p b m) := by
  simp [Statement, Instr.wellFormed]

theorem unready (p : Port) (b : Byte) (m : Moment) : Statement (.unready p b m) := by
  simp [Statement, Instr.wellFormed]

theorem query (p : Port) (b : Byte) (m : Moment) : Statement (.query p b m) := by
  simp [Statement, Instr.wellFormed]

theorem lineBreak (p : Port) (m : Moment) : Statement (.lineBreak p m) := by
  simp [Statement, Instr.wellFormed]

theorem ctsAsserted (p : Port) (level : Bool) (m : Moment) : Statement (.ctsAsserted p level m) := by
  simp [Statement, Instr.wellFormed]

theorem messageEnd (p : Port) (m : Moment) : Statement (.messageEnd p m) := by
  simp [Statement, Instr.wellFormed]

theorem prepare (p : Port) : Statement (.prepare p) := by
  simp [Statement, Instr.wellFormed]

theorem defer (p : Port) : Statement (.defer p) := by
  simp [Statement, Instr.wellFormed]

theorem commit (p : Port) : Statement (.commit p) := by
  simp [Statement, Instr.wellFormed]

theorem abort (p : Port) : Statement (.abort p) := by
  simp [Statement, Instr.wellFormed]

theorem editResult (p : Port) : Statement (.editResult p) := by
  simp [Statement, Instr.wellFormed]

theorem report (p : Port) : Statement (.report p) := by
  simp [Statement, Instr.wellFormed]

theorem step (p : Port) : Statement (.step p) := by
  simp [Statement, Instr.wellFormed]

theorem cuePut (m : Moment) : Statement (.cuePut m) := by
  simp [Statement, Instr.wellFormed]

theorem cueDrop (m : Moment) : Statement (.cueDrop m) := by
  simp [Statement, Instr.wellFormed]

theorem zoneSet (m : Moment) : Statement (.zoneSet m) := by
  simp [Statement, Instr.wellFormed]

theorem wallSet (m : Moment) : Statement (.wallSet m) := by
  simp [Statement, Instr.wellFormed]

theorem phaseSet (m : Moment) : Statement (.phaseSet m) := by
  simp [Statement, Instr.wellFormed]

theorem permit (m : Moment) : Statement (.permit m) := by
  simp [Statement, Instr.wellFormed]

theorem lock (m : Moment) : Statement (.lock m) := by
  simp [Statement, Instr.wellFormed]

theorem save (m : Moment) : Statement (.save m) := by
  simp [Statement, Instr.wellFormed]

theorem erase (m : Moment) : Statement (.erase m) := by
  simp [Statement, Instr.wellFormed]

theorem program (m : Moment) : Statement (.program m) := by
  simp [Statement, Instr.wellFormed]

theorem check (found : Bool) (m : Moment) : Statement (.check found m) := by
  simp [Statement, Instr.wellFormed]

theorem echoEdge (p : Port) (ticks : Nat) (m : Moment) : Statement (.echoEdge p ticks m) := by
  simp [Statement, Instr.wellFormed, show maxFrameCount = 139261 from rfl]

theorem conversionEnd (a : Nat) (m : Moment) : Statement (.conversionEnd a m) := by
  simp [Statement, Instr.wellFormed]

theorem wrap (m : Moment) : Statement (.wrap m) := by
  simp [Statement, Instr.wellFormed]

theorem returnToMark (p : Port) (m : Moment) : Statement (.returnToMark p m) := by
  simp [Statement, Instr.wellFormed]

theorem stopBitEnd (p : Port) (m : Moment) : Statement (.stopBitEnd p m) := by
  simp [Statement, Instr.wellFormed]

end Sys2Proof.Laws.WellFormedOperands
end

