-- ==== Sys2Proof/Laws/Timebase.lean ====
section
/-! SUPPORT. The lemmas of the timebase's operations: what the passing of ticks changes, what a strobe does to each block,
what an empty queue can do, and the outcome of each timebase command in one equation. -/

namespace Sys2Proof.Machine

/-! ### The passing of ticks -/

@[simp] theorem passTicks_state (k : Nat) (t : Wtb) : (t.passTicks k).state = t.state := by
  unfold Wtb.passTicks; split <;> rfl

@[simp] theorem passTicks_w (k : Nat) (t : Wtb) : (t.passTicks k).w = t.w := by
  unfold Wtb.passTicks; split <;> rfl

@[simp] theorem passTicks_timebase (k : Nat) (t : Wtb) : (t.passTicks k).timebase = t.timebase := by
  unfold Wtb.passTicks; split <;> rfl

@[simp] theorem passTicks_common (k : Nat) (t : Wtb) : (t.passTicks k).common = t.common := by
  unfold Wtb.passTicks; split <;> rfl

@[simp] theorem passTicks_pending (k : Nat) (t : Wtb) : (t.passTicks k).pending = t.pending := by
  unfold Wtb.passTicks; split <;> rfl

@[simp] theorem passTicks_missRun (k : Nat) (t : Wtb) : (t.passTicks k).missRun = t.missRun := by
  unfold Wtb.passTicks; split <;> rfl

@[simp] theorem passTicks_relockFrame (k : Nat) (t : Wtb) : (t.passTicks k).relockFrame = t.relockFrame := by
  unfold Wtb.passTicks; split <;> rfl

@[simp] theorem passTicks_glitch (k : Nat) (t : Wtb) : (t.passTicks k).glitch = t.glitch := by
  unfold Wtb.passTicks; split <;> rfl

@[simp] theorem passTicks_postscaler (k : Nat) (t : Wtb) : (t.passTicks k).postscaler = t.postscaler := by
  unfold Wtb.passTicks; split <;> rfl

@[simp] theorem passTicks_frameHigh (k : Nat) (t : Wtb) : (t.passTicks k).frameHigh = t.frameHigh := by
  unfold Wtb.passTicks; split <;> rfl

theorem passTicks_unset (k : Nat) (t : Wtb) (h : t.state = .unset) : t.passTicks k = t := by
  simp [Wtb.passTicks, h]

theorem passTicks_c (k : Nat) (t : Wtb) (h : t.state ≠ .unset) : (t.passTicks k).c = t.c + k := by
  simp [Wtb.passTicks, h]

theorem passTicks_interval (k : Nat) (t : Wtb) (h : t.state ≠ .unset) :
    (t.passTicks k).interval = t.intervalAfter k := by
  simp [Wtb.passTicks, h]

theorem passTicks_relockRun (k : Nat) (t : Wtb) (h : t.state ≠ .unset) :
    (t.passTicks k).relockRun = t.relockRunAfter k := by
  simp [Wtb.passTicks, h]

/-- Ticks change nothing but the counts that they advance. -/
theorem passTicks_frame (k : Nat) (t : Wtb) :
    t.passTicks k = { t with
      c := (t.passTicks k).c
      prescaleCount := (t.passTicks k).prescaleCount
      interval := (t.passTicks k).interval
      relockRun := (t.passTicks k).relockRun } := by
  unfold Wtb.passTicks; split <;> rfl

@[simp] theorem passTicks_n (k : Nat) (t : Wtb) : (t.passTicks k).n = t.n := by
  simp [Wtb.n]

@[simp] theorem passTicks_half (k : Nat) (t : Wtb) : (t.passTicks k).half = t.half := by
  simp [Wtb.half]

@[simp] theorem passTicks_lateLimit (k : Nat) (t : Wtb) : (t.passTicks k).lateLimit = t.lateLimit := by
  simp [Wtb.lateLimit]

@[simp] theorem passTicks_limit (k : Nat) (t : Wtb) : (t.passTicks k).limit = t.limit := by
  simp [Wtb.limit, Wtb.relockLimit]

/-! ### The strobe of the timebase -/

/-- A strobe without a pending set. -/
theorem wtbStrobe_plain (t : Wtb) (h : t.pending = none) :
    t.strobe = { t with
      frameHigh := true, w := t.w + 1, c := 0, relockFrame := false
      postscaler := if t.postscaler + 1 = t.common.sweepDivisor then 0 else t.postscaler + 1 } := by
  simp [Wtb.strobe, h, Wtb.postscalerWraps]

/-- A strobe that applies a pending set. -/
theorem wtbStrobe_apply (t : Wtb) (set : WallSet) (h : t.pending = some set) :
    t.strobe = { t with
      frameHigh := true, w := t.w + 1, c := 0, relockFrame := false
      state := t.state.applied set.timebase.source
      prescaleCount := 0, timebase := some set.timebase, common := set.common, pending := none
      missRun := if t.state.applied set.timebase.source = .free then 0 else t.missRun
      relockRun := 0, interval := none, postscaler := 0 } := by
  simp [Wtb.strobe, h, Wtb.apply]

@[simp] theorem wtbStrobe_w (t : Wtb) : t.strobe.w = t.w + 1 := by
  unfold Wtb.strobe; split <;> rfl

@[simp] theorem wtbStrobe_c (t : Wtb) : t.strobe.c = 0 := by
  unfold Wtb.strobe; split <;> rfl

@[simp] theorem wtbStrobe_frameHigh (t : Wtb) : t.strobe.frameHigh = true := by
  unfold Wtb.strobe; split <;> rfl

@[simp] theorem wtbStrobe_relockFrame (t : Wtb) : t.strobe.relockFrame = false := by
  unfold Wtb.strobe; split <;> rfl

@[simp] theorem wtbStrobe_glitch (t : Wtb) : t.strobe.glitch = t.glitch := by
  unfold Wtb.strobe; split <;> rfl

@[simp] theorem wtbStrobe_pending (t : Wtb) : t.strobe.pending = none := by
  unfold Wtb.strobe; split <;> simp_all [Wtb.apply]

/-! ### Limits -/

@[simp] theorem lateLimitMiss_pending (t : Wtb) : t.lateLimitMiss.pending = t.pending := by
  unfold Wtb.lateLimitMiss; split <;> rfl

@[simp] theorem lateLimitMiss_w (t : Wtb) : t.lateLimitMiss.w = t.w := by
  unfold Wtb.lateLimitMiss; split <;> rfl

@[simp] theorem lateLimitMiss_glitch (t : Wtb) : t.lateLimitMiss.glitch = t.glitch := by
  unfold Wtb.lateLimitMiss; split <;> rfl

@[simp] theorem lateLimitMiss_timebase (t : Wtb) : t.lateLimitMiss.timebase = t.timebase := by
  unfold Wtb.lateLimitMiss; split <;> rfl

@[simp] theorem lateLimitMiss_common (t : Wtb) : t.lateLimitMiss.common = t.common := by
  unfold Wtb.lateLimitMiss; split <;> rfl

@[simp] theorem lateLimitMiss_postscaler (t : Wtb) : t.lateLimitMiss.postscaler = t.postscaler := by
  unfold Wtb.lateLimitMiss; split <;> rfl

/-! ### The strobe at the arming unit -/

/-- What the examination of number `k` reads of the phase watch at a strobe, port by port (R99, R100). -/
theorem statusesAt_get (s : State) (o : StrobeOrder) (k : Nat) (p : Port) :
    (statusesAt o s.watch (mapAt (fun _ e => e.strobe) s.watch) k)[p] = s.statusAt o k p := by
  simp only [statusesAt, mapAt_get, State.statusAt]

/-- The examination of cues in two parts. -/
theorem examineAll_append (w : Frame) (status : Nat → Vector StepStatus 6) (l m : List (Cue × Nat)) (s : Schedule) :
    s.examineAll w status (l ++ m) = (s.examineAll w status l).examineAll w status m := by
  simp [Schedule.examineAll]

/-- The examination of one cue and then of others. -/
theorem examineAll_cons (w : Frame) (status : Nat → Vector StepStatus 6) (x : Cue × Nat) (l : List (Cue × Nat))
    (s : Schedule) :
    s.examineAll w status (x :: l) = (s.examineId w (status x.2) x.1.id).examineAll w status l := by
  simp [Schedule.examineAll]

/-! ### The passing of time on an empty queue -/

/-- Whether a frame is due does not depend on GLITCH. -/
theorem frameDue_congr {t u : Wtb} {g : Bool} (h : u = { t with glitch := g }) : u.frameDue = t.frameDue := by
  subst h; rfl

/-- The starts that are due leave unchanged whether a frame is due. -/
@[simp] theorem frameDue_startDue (s : State) : s.startDue.wtb.frameDue = s.wtb.frameDue :=
  frameDue_congr (startDue_wtb s)

/-- Everything that can happen while no command waits (R1, R3, R31). -/
theorem elapse_cases (s : State) :
    s.wtb.frameDue = true ∧ s.elapse
        = (s.atMoment (Config.strobeOrder s.freeCount).moment).endFrame (Config.strobeOrder s.freeCount)
      ∨ s.wtb.frameDue = false ∧ s.elapse = s.startDue.basePeriod := by
  unfold State.elapse
  cases s.wtb.frameDue
  · exact .inr ⟨rfl, rfl⟩
  · exact .inl ⟨rfl, rfl⟩

/-! ### What a strobe command runs -/

/-- Which commands end the frame does not depend on GLITCH, nor on the other blocks. -/
theorem strobeOf_congr (i : Instr) {s u : State} {g : Bool} (h : u.wtb = { s.wtb with glitch := g }) :
    strobeOf i u = strobeOf i s := by
  have hn : u.wtb.n = s.wtb.n := by rw [h]; rfl
  have hl : u.wtb.limit = s.wtb.limit := by rw [h]; rfl
  cases i <;> simp only [strobeOf, hn, hl] <;> simp only [h]

/-- The starts before an event leave unchanged which commands end the frame. -/
theorem strobeOf_atMoment (i : Instr) (m : Moment) (s : State) : strobeOf i (s.atMoment m) = strobeOf i s :=
  strobeOf_congr i (atMoment_wtb m s)

/-- A command that ends the frame answers a strobe of the whole part on the state that its moment finds, on the timebase as its
cause left it: only the timebase can differ before it, and it keeps W, the settings, the pending set, the postscaler and, of
the state after the starts, GLITCH. -/
theorem exec_of_strobeOf {i : Instr} {s : State} {o : StrobeOrder} (h : strobeOf i s = some o) :
    ∃ t : Wtb, exec i s = .next ({ s.atMoment o.moment with wtb := t }.strobe o)
      ∧ t.w = s.wtb.w ∧ t.timebase = s.wtb.timebase ∧ t.common = s.wtb.common ∧ t.pending = s.wtb.pending
      ∧ t.postscaler = s.wtb.postscaler ∧ t.glitch = (s.atMoment o.moment).wtb.glitch := by
  rw [← strobeOf_atMoment i o.moment] at h
  have hw := atMoment_wtb o.moment s
  suffices key : ∀ u : State, strobeOf i u = some o →
      (∀ f : State → State, State.event o.moment f s = .next (f u)) →
      ∃ t : Wtb, exec i s = .next ({ u with wtb := t }.strobe o)
        ∧ t.w = u.wtb.w ∧ t.timebase = u.wtb.timebase ∧ t.common = u.wtb.common ∧ t.pending = u.wtb.pending
        ∧ t.postscaler = u.wtb.postscaler ∧ t.glitch = u.wtb.glitch by
    obtain ⟨t, ht, h1, h2, h3, h4, h5, h6⟩ := key (s.atMoment o.moment) h fun _ => rfl
    rw [hw] at h1 h2 h3 h4 h5
    exact ⟨t, ht, h1, h2, h3, h4, h5, h6⟩
  clear h hw
  intro u h he
  cases i <;> simp [strobeOf] at h
  case freeRunningStrobe o' =>
    obtain ⟨h, rfl⟩ := h
    have hr : u.wtb.state.runsFree = true := by
      rcases h with h | h | h <;> simp [h, TimebaseState.runsFree]
    exact ⟨u.wtb.passToLimit, by simp [exec, execFreeRunningStrobe, he, hr], by simp [Wtb.passToLimit]⟩
  case lateLimitStrobe o' =>
    obtain ⟨⟨h, h'⟩, rfl⟩ := h
    exact ⟨u.wtb.passToLimit.lateLimitMiss, by simp [exec, execLateLimitStrobe, he, h, h'], by simp [Wtb.passToLimit]⟩
  case relockFrameLimit o' =>
    obtain ⟨⟨h, h'⟩, rfl⟩ := h
    exact ⟨u.wtb.passToLimit.toHoldover, by simp [exec, execRelockFrameLimit, he, h, h'],
      by simp [Wtb.passToLimit, Wtb.toHoldover]⟩
  case referenceEdge ticks o' =>
    obtain ⟨⟨h, h'⟩, rfl⟩ := h
    have hc : ¬ (u.wtb.passUpTo ticks).c < u.wtb.half := by
      simp only [Wtb.passUpTo, passTicks_c _ _ (by simp [h] : u.wtb.state ≠ .unset), Wtb.half]
      omega
    refine ⟨{ u.wtb.passUpTo ticks with missRun := 0 }, ?_, by simp [Wtb.passUpTo]⟩
    have hs : (u.wtb.passUpTo ticks).state = .locked := by simp [Wtb.passUpTo, h]
    have hh : (u.wtb.passUpTo ticks).half = u.wtb.half := by simp [Wtb.passUpTo]
    simp [exec, execReferenceEdge, he, Wtb.referenceEdge, hs, hh, hc]

end Sys2Proof.Machine
end

