-- ==== Sys2Proof/Tests/Slice0.lean ====
section
/-! SUPPORT. Tests: ill-formed commands refused, single steps against the worked sequences of spec/, and for every statement
with hypotheses a state and operands that meet them. -/

namespace Sys2Proof.Tests

open Sys2Proof Sys2Proof.Machine

/-- Each port's phase watch takes a strobe before the first deadline, and a new period comes before the zone dimmer; the
strobe comes later than the event before it. -/
def order : StrobeOrder := ⟨Vector.replicate 6 0, true, .later⟩

/-! ### Well-formed commands -/

theorem test_wellFormed_sample : (Instr.conversionEnd 1023).wellFormed = true
    ∧ (Instr.conversionEnd 1024).wellFormed = false := by decide

theorem test_wellFormed_edge_ticks : (Instr.referenceEdge 139261 order).wellFormed = true
    ∧ (Instr.referenceEdge 139262 order).wellFormed = false := by decide

theorem test_wellFormed_echo_ticks : (Instr.echoEdge 5 139261).wellFormed = true
    ∧ (Instr.echoEdge 5 139262).wellFormed = false := by decide

/-! ### States for the tests -/

/-- A port after start-up with CTS asserted. -/
def port : Link := { Link.reset true with receiver := .ready, detector := .measuring }

/-- The part in FREE at N = 1000, after start-up. -/
def free : State :=
  { State.reset with
    wtb := { Wtb.reset with state := .free, timebase := some ⟨.internal, 0, 1000⟩ }
    links := Vector.replicate 6 port
    page := ⟨.idle, none, false⟩
    dimmer := { Dimmer.reset with running := true } }

/-- The part with its timebase changed. -/
def wall (f : Wtb → Wtb) : State := { free with wtb := f free.wtb }

/-- The part following the reference in a timebase state, with the settings of section 1.10. -/
def follow (st : TimebaseState) (f : Wtb → Wtb) : State :=
  wall fun t => f { t with state := st, timebase := some ⟨.reference, 2, 12500⟩ }

/-- The part with port 0 changed. -/
def onPort (f : Link → Link) : State := { free with links := free.links.set 0 (f port) }

/-- Port 0 with some characters of a message received. -/
def assembling (buffer : List Byte) : State := onPort fun l => { l with rx := .assembling buffer buffer.length }

/-- The part with an edit of port 0 being worked on. -/
def work (m : Message) (s : State) : State :=
  { s with eu := { s.eu with state := .working, slots := s.eu.slots.set 0 [⟨.a, m, .active false⟩] } }

/-- A DIM cue with fire frame 100 and participants ports 0 and 2. -/
def cue : Cue where
  id := 11
  fire := 100
  transition := .dim
  lo := 4
  li := 2
  lead := 20
  margin := 10
  policy := .defer
  deferStep := 25
  maxDeferrals := 2
  deferralsUsed := 0
  repeatInterval := none
  repeatCount := 0
  participants := [⟨0, 501, .asked⟩, ⟨2, 503, .asked⟩]
  armed := 0
  state := .asking
  notices := Vector.replicate 6 ⟨none, true, false⟩

/-- The part at wall frame `w` with a table of live cues. -/
def cues (w : Frame) (live : List Cue) : State :=
  { wall fun t => { t with w := w } with sched := { Schedule.reset with live := live } }

/-- Every entry of a cue set to one readiness. -/
def answered (r : Readiness) (c : Cue) : Cue := c.mapReadiness fun _ => r

/-- What a step answers, read by `f`. -/
def after {α : Type} (f : State → α) (o : Host.Outcome State Fault Refusal) : Option α :=
  match o with
  | .next t => some (f t)
  | .fault _ => none
  | .refused _ => none

/-! ### Wall timebase (section 1.10) -/

theorem test_late_limit_second_miss :
    after (fun t => (t.wtb.w, t.wtb.missRun, t.wtb.state))
      (exec (.lateLimitStrobe order) (follow .locked fun t => { t with w := 991, missRun := 1 }))
      = some (992, 2, .locked) := by decide

theorem test_late_limit_third_miss :
    after (fun t => (t.wtb.w, t.wtb.missRun, t.wtb.state, t.wtb.interval))
      (exec (.lateLimitStrobe order) (follow .locked fun t => { t with w := 992, missRun := 2 }))
      = some (993, 0, .holdover, none) := by decide

/-- Edge X at c = 7000: the interval of 3000 is not good. -/
theorem test_relock_spurious_edge :
    after (fun t => (t.wtb.c, t.wtb.relockRun, t.wtb.interval, t.wtb.state))
      (exec (.referenceEdge 3000 order)
        (follow .holdover fun t => { t with w := 1001, c := 4000, relockRun := 1, interval := some 0 }))
      = some (7000, 0, some 0, .holdover) := by decide

/-- Edge E7: the fourth good interval. -/
theorem test_relock_fourth_good :
    after (fun t => (t.wtb.state, t.wtb.relockFrame, t.wtb.relockRun, t.wtb.interval, t.wtb.c))
      (exec (.referenceEdge 4000 order)
        (follow .holdover fun t => { t with w := 1006, relockRun := 3, interval := some 8500 }))
      = some (.locked, true, 0, none, 4000) := by decide

/-- The open count is not past N + N/8 when the frame ends: nothing closes it before (R10). -/
theorem test_interval_outlives_frame :
    after (fun t => (t.wtb.interval, t.wtb.relockRun, t.wtb.c))
      (exec .intervalTooLong (follow .holdover fun t => { t with c := 4000, relockRun := 2, interval := some 0 }))
      = some (some 0, 2, 4000) := by decide

theorem test_free_running_strobe :
    after (fun t => (t.wtb.w, t.wtb.c, t.wtb.frameHigh)) (exec (.freeRunningStrobe order) (wall fun t => { t with c := 999 }))
      = some (1, 0, true) := by decide

/-- W wraps (R7). -/
theorem test_frame_number_wraps :
    after (fun t => t.wtb.w) (exec (.freeRunningStrobe order) (wall fun t => { t with w := 0xFFFFFFFF }))
      = some 0 := by decide

/-! ### Links -/

/-- A character of ones in an even number needs parity bit 0 without the mark bit and 1 with it (R20). -/
theorem test_parity : evenParity 0x03 false = false ∧ evenParity 0x03 true = true ∧ evenParity 0x07 false = true := by
  decide

/-- A LOCK is two characters (R23): the edit is taken by the IDLE edit unit. -/
theorem test_lock_arrives :
    after (fun t => (t.links[(0 : Port)].rx, t.eu.state, t.eu.pointer))
      (exec (.editArrival 0 9) (assembling [22])) = some (.hunting, .working, 1) := by decide

/-- A message cut short by a mark character (R24). -/
theorem test_truncated :
    after (fun t => (t.links[(0 : Port)].rx, t.links[(0 : Port)].flags.truncated, t.links[(0 : Port)].flags.badKind))
      (exec (.receivedCharacter 0 (outgoing true 34)) (assembling [22]))
      = some (.assembling [34] 1, true, false) := by decide

/-- The character on the line and the two after it. -/
def started (tx : TxState) : Option (LineChar × List Byte) :=
  match tx with
  | .sending current rest => some (current, rest.take 2)
  | .idle | .waiting _ | .abandoned _ => none

/-- A QUERY, and then CTS falls: the REPORT became owed first, so its message starts (R31). -/
theorem test_query_then_cts_falls :
    after (fun t => t.composers[(0 : Port)].report) (exec (.query 0 9) (assembling [34, 4])) = some (some (4, 9))
      ∧ after (fun t => (started t.links[(0 : Port)].tx, t.links[(0 : Port)].cts))
        (exec (.ctsAsserted 0 false) { free with composers := free.composers.set 0 ⟨false, some (4, 9)⟩ })
        = some (some (outgoing true 69, [255, 9]), false) := by decide

/-- A notice owed while CTS is deasserted starts when CTS is asserted, before the tick that comes then (R31). -/
theorem test_cts_starts_message :
    after (fun t => t.links[(0 : Port)].tx)
      (step (runCommand { onPort fun l => { l with cts := false } with composers := free.composers.set 0 ⟨true, none⟩ }
        (.ctsAsserted 0 true)))
      = some (.sending (outgoing true 70) [3, 0, 0]) := by decide

/-! ### Events that fall together (R31, R90, R114) -/

/-- The completion of port 0's edit, and its port reset at the same moment: the slot is DONE and then freed, and no result
goes out (R90, second row). A later port reset finds the EDIT_RESULT on its way. -/
theorem test_completion_then_port_reset :
    (let s := runCommand (work [22, 5] free) .lock;
      s.eu.slots[(0 : Port)].map (·.status) = [.done .accepted]
        ∧ after (fun t => (t.eu.slots[(0 : Port)], t.links[(0 : Port)].tx)) (exec (.lineBreak 0 .together) s)
          = some ([], .idle)
        ∧ after (fun t => (t.eu.slots[(0 : Port)], t.links[(0 : Port)].tx)) (exec (.lineBreak 0) s)
          = some ([], .abandoned (outgoing true 68))) := by decide

/-- A port reset and the fire strobe of a CUT cue fall together (R114, fire row): the COMMIT owed again is withdrawn, unsent on
port 0. -/
theorem test_port_reset_then_fire :
    after (fun t => t.sched.outcomes.map (·.unsent))
      (exec (.freeRunningStrobe { order with moment := .together })
        (runCommand (cues 99 [{ answered .ready cue with transition := .cut, state := .armed, armed := 5 }])
          (.lineBreak 0)))
      = some [1] := by decide

/-- The deadline and the port reset of an excluded participant fall together (R114, deadline row): its ABORT is owed
again. -/
theorem test_deadline_then_port_reset :
    after (fun t => t.sched.live.map fun c => c.notices[(2 : Port)])
      (exec (.lineBreak 2 .together)
        (runCommand
          (cues 89 [{ cue with policy := .partialTake, participants := [⟨0, 501, .ready⟩, ⟨2, 503, .refused 4⟩] }])
          (.freeRunningStrobe order)))
      = some [⟨some (.abort .excluded), true, false⟩] := by decide

/-- CTS has just been asserted on port 0, which has an EDIT_RESULT due and a SAVE waiting. -/
def saveWaits : State :=
  runCommand
    { onPort fun l => { l with cts := false, holding := some [23, 7] } with
      eu := { free.eu with slots := free.eu.slots.set 0 [⟨.a, [22, 5], .done .accepted⟩, ⟨.b, [22, 6], .done .accepted⟩] }
      page := ⟨.idle, some .default, true⟩ }
    (.ctsAsserted 0 true)

/-- The result starts when CTS is asserted (R31), the SAVE moves in and its save begins (R73, R167), so a pin reset after it
leaves the marker absent (R168). Falling together with the change of CTS the reset may come first. -/
theorem test_start_before_pin_reset :
    after (fun t => (t.page.state, t.page.marker)) (exec .pinReset saveWaits) = some (.loading false, false)
      ∧ after (fun t => (t.page.state, t.page.marker)) (exec (.pinReset .together) saveWaits)
        = some (.loading false, true) := by decide

/-! ### Cue table (examples of storage, section 4.3) -/

/-- A CUE_PUT: id 7, fire, transition, Lo and Li, lead, margin, policy, and port 0 with token 501. -/
def put (fire : Nat) (transition fade : Byte) (lead margin : Nat) : Message :=
  [16, 5, 7] ++ chars2 (fire / 65536) ++ chars2 fire ++ [transition, fade, fade] ++ chars2 lead ++ chars2 margin
    ++ [0, 0, 25, 2, 0, 0, 0, 0, 0, 0, 1, 0, 1, 245]

theorem test_storage_dim_raises_lead :
    (let c := Message.cueOf (put 100 1 8 5 3) .dim .defer; (c.lo, c.li, c.margin, c.lead)) = (8, 8, 9, 10) := by decide

theorem test_storage_fifth_row :
    (let c := Message.cueOf (put 100 1 20 65535 5000) .dim .defer; (c.lo, c.margin, c.lead)) = (20, 4094, 4095) := by
  decide

theorem test_storage_sixth_row :
    (let c := Message.cueOf (put 100 0 1 300 4200) .cut .defer; (c.lo, c.margin, c.lead)) = (1, 4094, 4095) := by decide

/-- An accepted put above its lead is WAITING; the EDIT_RESULT waits in its slot. -/
theorem test_put_accepted :
    after (fun t => (t.sched.live.map (·.state), t.eu.slots[(0 : Port)].map (·.status), t.eu.state))
      (exec .cuePut (work (put 100 1 4 20 10) (cues 50 [])))
      = some ([.waiting], [.done .accepted], .idle) := by decide

/-- Margin 10 and fire minus W of 10: TOO_SOON (R79, step 5). -/
theorem test_put_too_soon :
    after (fun t => (t.sched.live, t.eu.slots[(0 : Port)].map (·.status)))
      (exec .cuePut (work (put 100 1 4 20 10) (cues 90 []))) = some ([], [.done .tooSoon]) := by decide

/-! ### Arming (section 6.10) -/

/-- The deferral of cue 11: a READY and a refused participant. -/
theorem test_deferral :
    after (fun t => t.sched.live.map fun c => (c.fire, c.deferralsUsed, c.participants.map (·.readiness), c.state))
      (exec (.freeRunningStrobe order)
        (cues 89 [{ cue with participants := [⟨0, 501, .ready⟩, ⟨2, 503, .refused 4⟩] }]))
      = some [(125, 1, [.ready, .asked], .asking)] := by decide

/-- The take of an ARMED DIM cue asserts the take lines of its armed mask (R106). -/
theorem test_take :
    after (fun t => (t.sched.live.map (·.state), t.sched.take[(0 : Port)], t.sched.take[(1 : Port)], t.sched.take[(2 : Port)]))
      (exec (.freeRunningStrobe order) (cues 99 [{ answered .ready cue with state := .armed, armed := 5 }]))
      = some ([.taken], true, false, true) := by decide

/-- Ports 0 and 2 reach 64 frames since capture at one strobe; port 0 becomes SILENT before the deadline of cue 11 and port 2
after it (R100, R134): under PARTIAL the cue arms port 2 alone. -/
theorem test_silent_on_both_sides_of_deadline :
    after (fun t => (t.sched.live.map (·.armed), t.watch[(0 : Port)].status, t.watch[(2 : Port)].status))
      (exec (.freeRunningStrobe ⟨#v[0, 0, 64, 0, 0, 0], true, .later⟩)
        { cues 89 [{ answered .ready cue with policy := .partialTake }] with
          watch := Vector.replicate 6 ⟨⟨.every, 250⟩, 0, 0, 0, 0, 63, .inStep⟩ })
      = some ([4], .silent, .silent) := by decide

/-- The take of a CUT cue with one of its two ports armed: TAKEN_PARTIAL, with its unsent COMMIT (R106, R108, R109). -/
theorem test_cut_take_outcome :
    after (fun t => (t.sched.live, t.sched.outcomes))
      (exec (.freeRunningStrobe order) (cues 99 [{ answered .ready cue with transition := .cut, state := .armed, armed := 1 }]))
      = some ([], [⟨11, 100, .takenPartial, 0, 1, 0, .none⟩]) := by decide

/-- Token mismatch: REFUSED with reason 0. -/
theorem test_ready_token_mismatch :
    after (fun t => t.sched.live.map fun c => c.participants.map (·.readiness))
      (exec (.ready 0 8) { assembling [32, 11, 2] with sched := (cues 0 [cue]).sched })
      = some [[.refused 0, .asked]] := by decide

/-! ### Notices (section 7.8) -/

/-- A DEFER meets an unsent PREPARE, and meets nothing. -/
theorem test_defer_merge :
    (PortNotice.offer .defer ⟨some .prepare, false, false⟩).owed = some .prepare
      ∧ (PortNotice.offer .defer ⟨none, true, false⟩).owed = some .defer := by decide

/-- A PREPARE carries id, fire, token, transition, Lo and Li (R52). -/
theorem test_prepare_sent :
    after (fun t => t.links[(0 : Port)].tx)
      (exec (.prepare 0) (cues 80 [{ cue with notices := cue.notices.set 0 ⟨some .prepare, false, false⟩ }]))
      = some (.sending (outgoing true 64) [11, 0, 0, 0, 100, 1, 245, 1, 4, 2]) := by decide

/-! ### Phase watch (section 8.7) -/

/-- Frame 2019: the third beyond capture. -/
theorem test_echo_third_beyond :
    (EchoWatch.edge 320 12500 ⟨⟨.fourth, 250⟩, 3, 300, 0, 2, 4, .inStep⟩)
      = ⟨⟨.fourth, 250⟩, 0, 320, 0, 0, 0, .outOfStep⟩ := by decide

/-- Frame 2023: above N/2 the offset is negative. -/
theorem test_echo_negative_offset :
    (EchoWatch.edge 12380 12500 ⟨⟨.fourth, 250⟩, 3, 320, 0, 0, 4, .outOfStep⟩)
      = ⟨⟨.fourth, 250⟩, 0, -120, 1, 0, 0, .outOfStep⟩ := by decide

/-! ### Ambient sweep (sections 9.5 and 9.8) -/

theorem test_filter_examples :
    filterStep 3 40000 700 = 40600 ∧ filterStep 3 40000 500 = 39000 ∧ filterStep 3 39525 501 = 38592
      ∧ filterStep 3 32060 501 = 32060 ∧ filterStep 3 32065 501 = 32064 := by decide

/-- Sweep 21: the eighth clear sample of a FAULTED sensor. -/
theorem test_sensor_repaired :
    Sensor.convert 3 620 ⟨.faulted, 620, 39280, 0, 7⟩ = ⟨.good, 620, 39330, 0, 0⟩ := by decide

/-! ### Zone dimming (section 10.8) -/

/-- Zone 5 of the worked case. -/
def zone5 : Zone where
  config := ⟨some 2, some 4, 0, #v[0, 0, 0, 0, 600, 760, 0, 0, 0], 72, 50, 900, 20⟩
  ba := 800
  g := 256
  d := 800
  buffer := 1600
  active := 1600

/-- The cue of the worked case, with fire frame 10. -/
def fadeCue : Cue := { cue with fire := 10, lo := 3, li := 4, state := .armed, armed := 4 }

theorem test_zone_worked_case :
    (let z := zone5.compute 8 [fadeCue] (Ambient.reset.sensors.set 4 ⟨.good, 625, 40000, 0, 0⟩) 2000;
      (z.ba, z.g, z.d, z.buffer)) = (820, 171, 547, 1094) := by decide

theorem test_fade_table :
    [fadeAt 3 4 3, fadeAt 3 4 2, fadeAt 3 4 1, fadeAt 3 4 0, fadeAt 3 4 (-1), fadeAt 3 4 (-4), fadeAt 3 4 (-5)]
      = [none, some 171, some 86, some 0, some 64, some 256, none] := by decide

/-! ### Settings page (section 11.4) -/

/-- A pin reset in the program phase: the save is gone, the marker absent. -/
theorem test_pin_reset_during_save :
    after (fun t => (t.page, t.eu.state))
      (exec .pinReset { free with page := ⟨.saving .program .default, none, false⟩ })
      = some (⟨.loading false, none, false⟩, .idle) := by decide

theorem test_load_takes_defaults :
    after (fun t => (t.page.state, t.wtb.state, t.dimmer.running, t.links[(3 : Port)].rtr))
      (exec (.loadEnd (Vector.replicate 6 false)) { State.reset with page := ⟨.loading true, none, false⟩ })
      = some (.idle, .unset, true, true) := by decide

/-! ### Hypotheses met: the machine and the timebase -/

theorem witness_StepRunsFrontCommand : { free with pending := [.wrap, .save] }.pending = .wrap :: [.save] := rfl

theorem witness_EmptyQueuePassesTime :
    (State.reset.pending = [] ∧ State.reset.Settled ∧ State.reset.wtb.state = .unset
        ∧ State.reset.dimmer.running = false)
      ∧ (let s := wall fun t => { t with c := 1000 };
          s.pending = [] ∧ s.Settled ∧ s.wtb.state ≠ .unset ∧ s.wtb.limit ≤ s.wtb.c)
      ∧ (let s := { wall (fun t => { t with c := 999 }) with dimmer := { free.dimmer with divider := 6 } };
          s.Settled ∧ s.wtb.state ≠ .unset ∧ s.wtb.c < s.wtb.limit ∧ ¬ s.wtb.prescaleCount + 1 < s.wtb.division
            ∧ s.wtb.interval = none ∧ s.dimmer.running = true ∧ s.dimmer.divider + 1 < 8)
      ∧ (let s := { follow .seeking (fun t => { t with prescaleCount := 15, interval := some 14062 }) with
            dimmer := { free.dimmer with divider := 7, counter := 1998 } };
          s.Settled ∧ s.wtb.c < s.wtb.limit ∧ ¬ s.wtb.prescaleCount + 1 < s.wtb.division
            ∧ s.wtb.interval = some 14062 ∧ ¬ 14062 + 1 ≤ s.wtb.n + s.wtb.n / 8 ∧ 14061 + 1 ≤ s.wtb.n + s.wtb.n / 8
            ∧ ¬ s.dimmer.divider + 1 < 8 ∧ s.dimmer.counter + 1 < s.dimmer.counterPeriod
            ∧ ¬ 1999 + 1 < s.dimmer.counterPeriod)
      ∧ (let s := follow .seeking fun t => { t with prescaleCount := 14 };
          s.Settled ∧ s.wtb.c < s.wtb.limit ∧ s.wtb.prescaleCount + 1 < s.wtb.division) := by decide

/-- A pending set of wall settings with a source. -/
def pendingSet (source : Source) : WallSet := ⟨⟨source, 0, 1000⟩, ⟨2, 3, 3, 4095⟩⟩

theorem witness_StrobeAtTimebase :
    strobeOf (.freeRunningStrobe order) free = some order ∧ free.NoStartBefore .later ∧ free.wtb.pending = none
      ∧ (let s := wall fun t => { t with pending := some (pendingSet .reference) };
          s.NoStartBefore .later ∧ strobeOf (.freeRunningStrobe order) s = some order
            ∧ s.wtb.pending = some (pendingSet .reference)) := by decide

theorem witness_PendingSetChangesState :
    (let s := fun st f => follow st fun t => f { t with pending := some (pendingSet .reference) };
      strobeOf (.freeRunningStrobe order) (s .seeking id) = some order
        ∧ strobeOf (.freeRunningStrobe order) (s .holdover id) = some order
        ∧ strobeOf (.referenceEdge 6250 order) (s .locked id) = some order
        ∧ strobeOf (.lateLimitStrobe order) (s .locked fun t => { t with missRun := 1 }) = some order
        ∧ strobeOf (.relockFrameLimit order) (s .locked fun t => { t with relockFrame := true }) = some order)
      ∧ (pendingSet .internal).timebase.source = .internal := by decide

theorem witness_FrameEndsAtItsLimit :
    (let s := follow .holdover fun t => { t with c := 12000, interval := some 13562 };
      s.wtb.pending = none ∧ s.wtb.state = .holdover
        ∧ 13562 + (s.wtb.n - s.wtb.c) = s.wtb.n + s.wtb.n / 8)
      ∧ (follow .locked fun t => { t with missRun := 2 }).wtb.relockFrame = false
      ∧ (follow .locked fun t => { t with relockFrame := true }).wtb.state = .locked := by decide

theorem witness_EdgeInLockedFrame :
    (let s := follow .locked id;
      s.NoStartBefore .later ∧ s.wtb.state = .locked ∧ s.wtb.pending = none
        ∧ s.wtb.n / 2 ≤ s.wtb.c + min 6250 (s.wtb.limit - s.wtb.c)
        ∧ s.wtb.c + min 6249 (s.wtb.limit - s.wtb.c) < s.wtb.n / 2) := by decide

/-- Intervals of 10937, 10938, 14062 and 14063 ticks: the ends of the relock window and the counts next to them. -/
theorem witness_EdgeMeasuresInterval :
    (let s := follow .seeking fun t => { t with interval := some 1562, relockRun := 2 };
      s.NoStartBefore .later ∧ s.wtb.state = .seeking ∧ s.wtb.c + 12500 ≤ s.wtb.n ∧ s.wtb.interval = some 1562
        ∧ 1562 + 9375 < s.wtb.n - s.wtb.n / 8 ∧ s.wtb.n - s.wtb.n / 8 = 1562 + 9376
        ∧ 1562 + 12500 = s.wtb.n + s.wtb.n / 8 ∧ s.wtb.n + s.wtb.n / 8 < 1563 + 12500
        ∧ s.wtb.relockRun + 1 < 4)
      ∧ (follow .holdover id).wtb.interval = none
      ∧ (follow .holdover fun t => { t with relockRun := 3 }).wtb.relockRun + 1 = 4 := by decide

theorem witness_QuietTimebaseEvents :
    (State.reset.NoStartBefore .later ∧ State.reset.wtb.state = .unset)
      ∧ (free.NoStartBefore .later ∧ free.wtb.state = .free ∧ free.wtb.interval = none)
      ∧ (let s := follow .seeking fun t => { t with c := 12499, interval := some 14062 };
          s.NoStartBefore .later ∧ s.wtb.interval = some 14062 ∧ s.wtb.state = .seeking
            ∧ s.wtb.n + s.wtb.n / 8 + 1 - 14062 ≤ s.wtb.n - s.wtb.c
            ∧ s.wtb.n - s.wtb.c < s.wtb.n + s.wtb.n / 8 + 1 - 14061) := by decide

theorem witness_WChangesOnlyAtStrobes :
    (∃ t, exec .wrap free = .next t) ∧ strobeOf .wrap free = none
      ∧ (∃ t, exec (.freeRunningStrobe order) free = .next t)
      ∧ (strobeOf (.freeRunningStrobe order) free).isSome = true :=
  ⟨⟨_, rfl⟩, rfl, ⟨_, rfl⟩, rfl⟩

/-! ### Hypotheses met: links -/

theorem witness_BadCharacterAndReturnToMark :
    (free.NoStartBefore .later ∧ free.links[(0 : Port)].receiver = .ready)
      ∧ (let ch : LineChar := ⟨1, false, false, true⟩; ¬ (parityOk ch = true ∧ ch.stopMark = true))
      ∧ (let ch : LineChar := ⟨1, false, true, false⟩; ¬ (parityOk ch = true ∧ ch.stopMark = true))
      ∧ (onPort fun l => { l with receiver := .awaitingMark, detector := .awaitingMark }).links[(0 : Port)].receiver
        = .awaitingMark := by decide

/-- The 44th character of a CUE_PUT of seven participants finds 43 kept. -/
theorem witness_GoodCharacters :
    ((assembling [22]).NoStartBefore .later ∧ (assembling [22]).links[(0 : Port)].receiver = .ready)
      ∧ (State.reset.NoStartBefore .later ∧ State.reset.links[(0 : Port)].receiver ≠ .ready)
      ∧ (free.NoStartBefore .later ∧ free.links[(0 : Port)].receiver = .ready ∧ free.links[(0 : Port)].rx = .hunting)
      ∧ (let buffer : List Byte := 16 :: List.replicate 23 0 ++ [7] ++ List.replicate 18 0;
          (assembling buffer).NoStartBefore .later
            ∧ (assembling buffer).links[(0 : Port)].rx = .assembling buffer 43 ∧ buffer.length ≤ bufferCap
            ∧ messageLength ((buffer ++ [0]).take bufferCap) ≠ some (43 + 1)) := by decide

/-- Six ports owe a STEP; all but one of them may send it. -/
def owingSteps : State := { onPort fun l => { l with cts := false } with composers := Vector.replicate 6 ⟨true, none⟩ }

theorem witness_StartsComeFirst :
    owingSteps.pending = [] ∧ owingSteps.chosen 0 = none ∧ owingSteps.chosen 1 ≠ none ∧ ¬ owingSteps.Settled
      ∧ owingSteps.wtb.c < owingSteps.wtb.limit ∧ ¬ { owingSteps.wtb with c := 1000 }.c < owingSteps.wtb.limit
      ∧ free.Settled ∧ momentOf (.wrap .later) = some .later ∧ momentOf (.lineBreak 1 .together) = some .together
      ∧ sendPort (.step 1) = some 1
      ∧ after (fun t => t.links[(0 : Port)].tx) (exec (.lineBreak 1 .together)
          { owingSteps with links := owingSteps.links.set 0 { port with tx := .sending (outgoing true 70) [] } })
        = some (.sending (outgoing true 70) []) := by decide

/-- A start is due, and no message starts before an event that falls together with the one before it: each premise
`NoStartBefore` of a statement is met by such a state too. -/
theorem witness_together : owingSteps.NoStartBefore .together ∧ ¬ owingSteps.NoStartBefore .later := by decide

/-- A LOCK, and a CUE_PUT of seven participants, 46 characters. -/
theorem witness_WholeMessageIsDelivered :
    free.links[(0 : Port)].receiver = .ready ∧ free.links[(0 : Port)].rx = .hunting
      ∧ messageLength (([22, 9] : List Byte).take bufferCap) = some ([9].length + 1)
      ∧ (let rest : List Byte := List.replicate 23 0 ++ [7] ++ List.replicate 21 0;
          messageLength ((16 :: rest).take bufferCap) = some (rest.length + 1) ∧ 0 < 45 ∧ 45 ≤ rest.length) := by decide

/-- What the law of an edit unit amounts to for a unit that is not STORING and has the default permissions. -/
theorem eu_lawful (eu : EditUnit) (slots : ∀ p : Port, eu.slots[p].length ≤ slotCount)
    (names : ∀ p : Port, (eu.slots[p].map (·.name)).Nodup)
    (edits : ∀ p : Port, ∀ x ∈ eu.slots[p], (Message.kind x.edit).map RequestKind.isEdit = some true)
    (active : eu.activeSlots.length = if eu.state = .idle then 0 else 1) (storing : eu.state ≠ .storing)
    (served : eu.state = .idle → ∀ p : Port, ∀ x ∈ eu.slots[p], x.status ≠ .queued)
    (permits : ∀ p : Port, eu.permits[p] = .default) : eu.Lawful where
  slots_le := slots
  names := names
  edits p x hx := by
    have h := edits p x hx
    cases hk : Message.kind x.edit with
    | none => simp [hk] at h
    | some k => exact ⟨k, rfl, by simpa [hk] using h⟩
  active_count := active
  storing_save h := absurd h storing
  idle_served := served
  permits p := by
    rw [permits p]
    intro range h
    cases h
    decide

theorem eu_lawful_free : free.eu.Lawful := by
  refine eu_lawful _ ?_ ?_ ?_ ?_ ?_ ?_ ?_ <;> decide

theorem witness_EditArrives :
    (let s := assembling [23];
      s.NoStartBefore .later ∧ s.links[(0 : Port)].receiver = .ready ∧ s.links[(0 : Port)].rx = .assembling [23] 1
        ∧ messageLength (keepCharacter [23] 9) = some (1 + 1)
        ∧ Message.kind (keepCharacter [23] 9) = some .save ∧ RequestKind.save.isEdit = true
        ∧ s.links[(0 : Port)].holding = none ∧ s.eu.slots[(0 : Port)].length < 2 ∧ s.eu.state = .idle
        ∧ s.eu.permits[(0 : Port)].rights.save = true)
      ∧ (assembling [23]).eu.Lawful
      ∧ (let s := onPort fun l => { l with rx := .assembling [23] 1, holding := some [22, 1] };
          s.NoStartBefore .later ∧ s.links[(0 : Port)].holding.isSome = true)
      ∧ (let s := work [22, 1] (assembling [23]);
          s.NoStartBefore .later ∧ s.links[(0 : Port)].holding = none ∧ s.eu.slots[(0 : Port)].length < 2
            ∧ s.eu.state ≠ .idle)
      ∧ (let s := { assembling [23] with eu := { free.eu with
            state := .working
            slots := free.eu.slots.set 0 [⟨.a, [22, 1], .active false⟩, ⟨.b, [22, 2], .queued⟩] } };
          s.NoStartBefore .later ∧ s.eu.slots[(0 : Port)].length = 2) := by
  refine ⟨by decide, eu_lawful_free, by decide, by decide, by decide⟩

theorem witness_QueryArrives :
    (let s := assembling [34, 2];
      s.NoStartBefore .later ∧ s.links[(0 : Port)].receiver = .ready ∧ s.links[(0 : Port)].rx = .assembling [34, 2] 2
        ∧ s.links[(0 : Port)].holding = none)
      ∧ (let s := onPort fun l => { l with rx := .assembling [34, 2] 2, holding := some [22, 1] };
          s.NoStartBefore .later ∧ s.links[(0 : Port)].holding.isSome = true) := by decide

theorem witness_TransmitterFollowsCts :
    (let c := outgoing true 66;
      (∀ tx : TxState, tx = .sending c [11] ∨ tx = .waiting [11] ∨ tx = .idle ∨ tx = .sending c [] ∨ tx = .abandoned c →
          (onPort fun l => { l with tx := tx, cts := false }).NoStartBefore .later)
        ∧ (onPort fun l => { l with tx := .sending c [11] }).links[(0 : Port)].tx = .sending c [11]
        ∧ (onPort fun l => { l with tx := .waiting [11], cts := false }).links[(0 : Port)].tx = .waiting [11]
        ∧ free.links[(0 : Port)].tx = .idle
        ∧ (onPort fun l => { l with tx := .sending c [] }).links[(0 : Port)].tx = .sending c []
        ∧ (onPort fun l => { l with tx := .abandoned c }).links[(0 : Port)].tx = .abandoned c) := by
  refine ⟨?_, by decide⟩
  rintro _ (rfl | rfl | rfl | rfl | rfl) <;> decide

theorem witness_BreakResetsPort :
    (free.NoStartBefore .later ∧ free.links[(0 : Port)].detector = .measuring)
      ∧ (let s := onPort fun l => { l with tx := .sending (outgoing true 68) [5, 0, 0] };
          s.NoStartBefore .later ∧ s.links[(0 : Port)].detector = .measuring
            ∧ s.links[(0 : Port)].tx = .sending (outgoing true 68) [5, 0, 0])
      ∧ (let s := onPort fun l => { l with tx := .sending (outgoing false 0) [] };
          s.NoStartBefore .later ∧ s.links[(0 : Port)].detector = .measuring)
      ∧ (let s := onPort fun l => { l with tx := .waiting [5], cts := false };
          s.NoStartBefore .later ∧ s.links[(0 : Port)].detector = .measuring) := by decide

/-- An ASKING cue, an ARMED cue with port 0 armed, one with port 0 excluded, and one whose ABORT port 0 was sent. -/
theorem witness_PortResetOfCue :
    (let armed := { cue with state := .armed, armed := 1 };
      let excluded := { cue with state := .armed, armed := 4 };
      let aborted := { excluded with notices := cue.notices.set 0 ⟨none, true, true⟩ };
      (cues 80 [cue]).NoStartBefore .later ∧ (cues 95 [armed]).NoStartBefore .later
        ∧ (cues 95 [excluded]).NoStartBefore .later ∧ (cues 95 [aborted]).NoStartBefore .later
        ∧ aborted ∈ (cues 95 [aborted]).sched.live ∧ aborted.notices[(0 : Port)].abortSent = true
        ∧ (cues 80 [cue]).links[(0 : Port)].detector = .measuring ∧ cue ∈ (cues 80 [cue]).sched.live
        ∧ cue.hasPort 0 = true ∧ cue.notices[(0 : Port)].abortSent = false
        ∧ armed ∈ (cues 95 [armed]).sched.live ∧ inMask armed.armed 0 = true
        ∧ excluded ∈ (cues 95 [excluded]).sched.live ∧ inMask excluded.armed 0 = false
        ∧ cue.hasPort 1 = false) := by decide

/-! ### Hypotheses met: arming and take -/

theorem witness_AnswerIsTaken :
    (let s := { assembling [32, 11, 1] with sched := (cues 0 [cue]).sched };
      s.NoStartBefore .later ∧ (s.sched.live.map (·.id)).Nodup ∧ cue ∈ s.sched.live ∧ cue.state = .asking
        ∧ (cue.participants.map (·.port)).Nodup ∧ ⟨0, 501, .asked⟩ ∈ cue.participants
        ∧ s.links[(0 : Port)].receiver = .ready ∧ s.links[(0 : Port)].holding = none
        ∧ s.links[(0 : Port)].rx = .assembling [32, cue.id, 1] 3
        ∧ (501 : Token) = BitVec.ofNat 16 (256 * (1 : Byte).toNat + (245 : Byte).toNat))
      ∧ (assembling [33, 11]).links[(0 : Port)].rx = .assembling [33, cue.id] 2 := by decide

theorem witness_AnswerIsDiscarded :
    (let s := assembling [32, 11, 1];
      s.NoStartBefore .later ∧ (s.sched.live.map (·.id)).Nodup ∧ (¬ ∃ c ∈ s.sched.live, c.id = 11 ∧ c.state = .asking
        ∧ c.hasPort 0 = true)
        ∧ s.links[(0 : Port)].receiver = .ready ∧ s.links[(0 : Port)].holding = none
        ∧ s.links[(0 : Port)].rx = .assembling [32, 11, 1] 3
        ∧ ¬ ∃ c ∈ s.sched.live, c.id = 11 ∧ c.state = .armed ∧ c.hasPort 0 = true)
      ∧ (let s := { assembling [33, 11] with sched := (cues 0 [{ cue with state := .armed, armed := 1 }]).sched };
          s.NoStartBefore .later ∧ (¬ ∃ c ∈ s.sched.live, c.id = 11 ∧ c.state = .asking ∧ c.hasPort 0 = true)
            ∧ s.links[(0 : Port)].rx = .assembling [33, 11] 2
            ∧ ∃ c ∈ s.sched.live, c.id = 11 ∧ c.state = .armed ∧ c.hasPort 0 = true) := by decide

/-- A WAITING cue. -/
def waitingCue : Cue :=
  { answered .notAsked cue with state := .waiting, notices := Vector.replicate 6 .blank }

theorem witness_StrobeMovesCues :
    (let s := cues 79 [waitingCue];
      strobeOf (.freeRunningStrobe order) s = some order ∧ s.NoStartBefore .later ∧ (s.sched.live.map (·.id)).Nodup
        ∧ s.sched.live = [] ++ waitingCue :: [] ∧ waitingCue.ahead (s.wtb.w + 1) = waitingCue.lead)
      ∧ waitingCue.InState
      ∧ (let c := answered .ready cue;
          let s := cues 89 [c];
          s.NoStartBefore .later ∧ s.sched.live = [] ++ c :: [] ∧ c.ahead (s.wtb.w + 1) = c.margin
            ∧ (∀ x ∈ c.participants, x.readiness = .ready ∧ s.statusAt order 0 x.port = .unused)
            ∧ (∀ p : Port, c.notices[p].owed = none ∧ c.notices[p].abortSent = false))
      ∧ cue.ahead ((cues 80 [cue]).wtb.w + 1) ≠ cue.margin
      ∧ { cue with state := .armed, armed := 5 }.ahead ((cues 98 []).wtb.w + 1) ≠ 0 := by
  refine ⟨by decide, ?_, by decide, by decide, by decide⟩
  show _ ∧ _ ∧ _
  decide

/-- A cue with one READY entry and one ASKED. -/
def halfReady (policy : Policy) : Cue := { cue with
  policy := policy, participants := [⟨0, 501, .ready⟩, ⟨2, 503, .asked⟩] }

/-- Another cue of port 2 at the fire frame that a deferral of `cue` gives. -/
def rival : Cue := { cue with id := 12, fire := 125, participants := [⟨2, 620, .asked⟩] }

/-- For every way a deadline can fail, a strobe at W = 89 with the cue first in the table. -/
theorem witness_FailedDeadline :
    (let good := fun x : Participant => x.readiness = .ready;
      let s := fun c : Cue => cues 89 [c, rival];
      let c := halfReady .defer;
      strobeOf (.freeRunningStrobe order) (s c) = some order ∧ (s c).NoStartBefore .later
        ∧ ((s c).sched.live.map (·.id)).Nodup ∧ (s c).sched.live = [] ++ c :: [rival]
        ∧ c.state = .asking ∧ c.ahead ((s c).wtb.w + 1) = c.margin ∧ c.armed = 0
        ∧ (∀ p : Port, (s c).statusAt order 0 p = .unused) ∧ (¬ ∀ x ∈ c.participants, good x)
        ∧ c.deferralsUsed < c.maxDeferrals
        ∧ (∃ x ∈ (halfReady .partialTake).participants, good x)
        ∧ (∃ e ∈ [c, rival], e.id ≠ c.id ∧ e.fire = c.fire + BitVec.ofNat 32 c.deferStep
          ∧ ∃ x ∈ e.participants, c.hasPort x.port = true)
        ∧ (∀ e ∈ [c], e.id ≠ c.id → e.fire = c.fire + BitVec.ofNat 32 c.deferStep →
          ∀ x ∈ e.participants, c.hasPort x.port = false)
        ∧ ¬ { c with deferralsUsed := 2 }.deferralsUsed < c.maxDeferrals
        ∧ (∀ x ∈ cue.participants, ¬ good x)
        ∧ (∀ p : Port, c.notices[p].abortSent = false ∧ c.notices[p].owed = none)) := by decide

/-- A take of a DIM and of a CUT cue with fire frame 100, and the end of the fade-in, two frames later. -/
theorem witness_TakeLinesFollowTakes :
    (let c := { answered .ready cue with state := .armed, armed := 5 };
      let cut := { c with transition := .cut };
      let taken := { c with state := .taken };
      let s := cues 99 [c];
      (s.sched.live.map (·.id)).Nodup ∧ strobeOf (.freeRunningStrobe order) s = some order ∧ s.NoStartBefore .later
        ∧ s.sched.live = [] ++ c :: [] ∧ c.ahead (s.wtb.w + 1) = 0 ∧ inMask c.armed 0 = true ∧ strobeOf .wrap s = none
        ∧ (cues 99 [cut]).sched.live = [] ++ cut :: [] ∧ cut.ahead 100 = 0 ∧ cut.repeatInterval = none
        ∧ (∀ p : Port, inMask cut.armed p = cut.hasPort p) ∧ ¬ (∀ p : Port, inMask 1 p = cut.hasPort p)
        ∧ (cues 101 [taken]).sched.live = [] ++ taken :: []
        ∧ taken.ahead ((cues 101 [taken]).wtb.w + 1) = -(taken.li : Int)) := by decide

theorem witness_RetirementAndRepetition :
    (let c := { cue with repeatInterval := some 25, repeatCount := 1 };
      c.repeatCount ≠ 0 ∧ { c with repeatCount := 0 }.repeatCount = 0
        ∧ (∃ d ∈ [c, rival], d.id ≠ c.id ∧ d.fire = c.fire + BitVec.ofNat 32 25
          ∧ ∃ x ∈ d.participants, c.hasPort x.port = true)
        ∧ ∀ d ∈ [c], d.id ≠ c.id → d.fire = c.fire + BitVec.ofNat 32 25 →
          ∀ x ∈ d.participants, c.hasPort x.port = false) := by decide

/-! ### Hypotheses met: edits -/

theorem witness_ArbiterServesRoundRobin :
    (work [22, 1] free).eu.state ≠ .idle
      ∧ (let x : EditSlot := ⟨.b, [23, 40], .queued⟩;
          let done : EditSlot := ⟨.a, [22, 1], .done .accepted⟩;
          let s := { free with eu := { free.eu with pointer := 4, slots := free.eu.slots.set 1 [done, x] } };
          s.eu.state = .idle ∧ (1 : Port) = s.eu.pointer + (3 : Fin 6)
            ∧ (∀ j : Fin 6, j < 3 → ∀ y ∈ s.eu.slots[s.eu.pointer + j], y.status ≠ .queued)
            ∧ s.eu.slots[(1 : Port)] = [done] ++ x :: [] ∧ x.status = .queued
            ∧ (∀ y ∈ [done], y.status ≠ .queued)
            ∧ Message.kind x.edit = some .save ∧ s.eu.permits[(1 : Port)].rights.save = true) := by decide

/-- The edit unit at work for port 0 in slot A, with another edit of the port in slot B. -/
def twoSlots (orphan : Bool) (holding : Option Message) : State :=
  { onPort fun l => { l with holding := holding } with
    eu := { free.eu with
      state := .working
      slots := free.eu.slots.set 0 [⟨.a, [22, 1], .active orphan⟩, ⟨.b, [22, 2], .queued⟩] } }

theorem twoSlots_lawful (orphan : Bool) (holding : Option Message) : (twoSlots orphan holding).eu.Lawful := by
  show (twoSlots orphan none).eu.Lawful
  cases orphan <;> refine eu_lawful _ ?_ ?_ ?_ ?_ ?_ ?_ ?_ <;> decide

theorem witness_CompletionSettlesSlot :
    (twoSlots false none).eu.Lawful ∧ (twoSlots true (some [22, 3])).eu.Lawful
      ∧ (∀ p : Port, (twoSlots true (some [22, 3])).links[p].holding.isSome = true →
          (twoSlots true (some [22, 3])).eu.slots[p].length = slotCount)
      ∧ (twoSlots false none).eu.slots[(0 : Port)]
        = [] ++ (⟨.a, [22, 1], .active false⟩ : EditSlot) :: [⟨.b, [22, 2], .queued⟩]
      ∧ (twoSlots true (some [22, 3])).links[(0 : Port)].holding = some [22, 3]
      ∧ (twoSlots true none).links[(0 : Port)].holding = none := by
  refine ⟨twoSlots_lawful _ _, twoSlots_lawful _ _, ?_, ?_, ?_, ?_⟩ <;> decide

theorem witness_TimingFieldsAsStored : ∃ c, c = Message.cueOf (put 100 1 32 4095 4094) .dim .cancel :=
  ⟨_, rfl⟩

theorem witness_OtherFieldsAsStored :
    (let m := put 100 1 4 20 10; m.num 25 ≤ 6 ∧ ∀ k, k < m.num 25 → m.num (26 + 3 * k) ≤ 5) := by
  refine ⟨by decide, fun k hk => ?_⟩
  have h1 : Message.num (put 100 1 4 20 10) 25 = 1 := by decide
  obtain rfl : k = 0 := by rw [h1] at hk; omega
  decide

/-- A put that has no fault (R80). -/
theorem put_sound (w : Frame) (m : Message) (n : m.num 25 = 1) (port : ∀ e ∈ m.entries, e.1 ≤ 5)
    (nodup : (m.entries.map (·.1)).Nodup) (tr : m.num 8 ≤ 1) (pol : m.num 15 ≤ 2)
    (ahead : 0 ≤ m.putAhead w ∧ m.putAhead w < 2 ^ 30) (interval : m.num4 19 = 0) : ¬ PutFault w m := by
  rintro (h | ⟨e, he, h⟩ | h | h | h | h | h | ⟨h, _⟩)
  · omega
  · have := port e he; omega
  · exact h nodup
  · omega
  · omega
  · omega
  · omega
  · exact h interval

theorem put_sound_example : ¬ PutFault 90 (put 100 1 4 20 10) := by
  refine put_sound _ _ ?_ ?_ ?_ ?_ ?_ ?_ ?_ <;> decide

/-- At W = 90 fire minus W equals the margin, at W = 89 it exceeds it by one. -/
theorem witness_CuePutChecks :
    (let m := put 100 1 4 20 10;
      let s := fun w live => work m (cues w live);
      (s 90 []).NoStartBefore .later ∧ (s 90 []).eu.state = .working
        ∧ (s 90 []).eu.active = some (0, ⟨.a, m, .active false⟩)
        ∧ Message.kind m = some .cuePut ∧ ((s 90 [cue]).sched.live.map (·.id)).Nodup
        ∧ (work m State.reset).wtb.state = .unset ∧ (s 90 []).wtb.state ≠ .unset
        ∧ (∃ c, Message.putRecord 90 m = some c ∧ c.ahead 90 = c.margin)
        ∧ (∃ c, Message.putRecord 89 m = some c ∧ (c.margin : Int) < c.ahead 89)
        ∧ (∃ d ∈ (s 80 [{ cue with id := 7 }]).sched.live, d.id = 7 ∧ d.state ≠ .waiting)
        ∧ (∃ d ∈ (s 80 [cue]).sched.live, d.id ≠ 7 ∧ d.fire = 100 ∧ ∃ y ∈ d.participants, y.port = 0)
        ∧ (let full := (List.range 64).map fun k => { cue with id := BitVec.ofNat 8 (k + 100), fire := 1000 };
            ((s 80 full).sched.live.map (·.id)).Nodup ∧ (∀ d ∈ full, d.id ≠ 7) ∧ 64 ≤ full.length))
      ∧ ¬ PutFault 90 (put 100 1 4 20 10)
      ∧ PutFault 101 (put 100 1 4 20 10)
      ∧ PutProtected { Permission.default with idRange := some (8, 255) } (put 100 1 4 20 10)
      ∧ ¬ PutProtected .default (put 100 1 4 20 10) := by
  refine ⟨?_, put_sound_example, ?_, ?_, ?_⟩
  · refine ⟨by decide, by decide, by decide, by decide, by decide, by decide, by decide, ⟨_, rfl, by decide⟩, ⟨_, rfl, by decide⟩,
      by decide, by decide, by decide⟩
  · exact .inr (.inr (.inr (.inr (.inr (.inl (.inl (by decide)))))))
  · refine .inl fun range h => ?_
    cases h
    decide
  · rintro (h | ⟨e, he, q, hq, h⟩)
    · exact absurd (h _ rfl) (by decide)
    · revert q
      have : ∀ e ∈ Message.entries (put 100 1 4 20 10), ∀ q : Port, q.val = e.1 →
          inMask Permission.default.direct q ≠ false := by decide
      exact fun q hq h => this e he q hq h

theorem witness_CuePutStores :
    ¬ PutFault 90 (put 100 1 4 20 10) ∧ ([cue, rival] : List Cue).Pairwise (fun a b => a.before 90 b = true)
      ∧ (∃ c, Message.putRecord 80 (put 100 1 4 20 10) = some c ∧ c.ahead 80 ≤ c.lead)
      ∧ (∃ c, Message.putRecord 79 (put 100 1 4 20 10) = some c ∧ (c.lead : Int) < c.ahead 79) := by
  refine ⟨put_sound_example, by decide, ⟨_, rfl, by decide⟩, ⟨_, rfl, by decide⟩⟩

/-- A CUE_DROP of cue 11 at fire minus W = Lo and one less. -/
theorem witness_CueDropChecks :
    (let m : Message := [17, 5, 11];
      let c := { cue with state := .armed, armed := 5 };
      let s := fun w => work m (cues w [c]);
      (s 96).NoStartBefore .later ∧ (s 96).eu.state = .working ∧ (s 96).eu.active = some (0, ⟨.a, m, .active false⟩)
        ∧ Message.kind m = some .cueDrop ∧ ((s 96).sched.live.map (·.id)).Nodup
        ∧ (work m State.reset).wtb.state = .unset ∧ (s 96).wtb.state ≠ .unset
        ∧ (s 96).eu.permits[(0 : Port)].idRange = some (0, 255) ∧ m.num 3 ≤ (255 : Byte).toNat
        ∧ c ∈ (s 96).sched.live ∧ c.id = m.char 3
        ∧ (c.lo : Int) ≤ c.ahead 96 ∧ c.ahead 97 < c.lo
        ∧ 0 < { c with transition := .cut }.ahead 99 ∧ { c with transition := .cut }.ahead 100 ≤ 0
        ∧ (∀ d ∈ (cues 96 []).sched.live, d.id ≠ m.char 3)) := by decide

/-- A ZONE_SET of zone 7 with no owner and a fixed ambient. -/
def zoneSetMessage : Message := [18, 5, 7, 255, 8] ++ List.replicate 27 255

theorem witness_ZoneSetStores :
    (let s := work zoneSetMessage free;
      s.NoStartBefore .later ∧ s.eu.state = .working ∧ s.eu.active = some (0, ⟨.a, zoneSetMessage, .active false⟩)
        ∧ Message.kind zoneSetMessage = some .zoneSet ∧ s.eu.permits[(0 : Port)].rights.zone = true
        ∧ (7 : ZoneId).val = zoneSetMessage.num 3 ∧ zoneSetMessage.num 4 = 255 ∧ zoneSetMessage.num 5 ≤ 8
        ∧ 7 < Message.num [18, 5, 8, 255, 8] 3 ∧ 5 < Message.num [18, 5, 7, 6, 8] 4
        ∧ 8 < Message.num [18, 5, 7, 5, 9] 5) := by
  decide

/-- A WALL_SET with source REFERENCE, prescale code 2 and sweep count 8. -/
def wallSetMessage : Message := [19, 5, 1, 2, 48, 212, 8, 4, 3, 7, 208]

theorem witness_WallSetStores :
    (let s := work wallSetMessage free;
      s.NoStartBefore .later ∧ s.eu.state = .working ∧ s.eu.active = some (0, ⟨.a, wallSetMessage, .active false⟩)
        ∧ Message.kind wallSetMessage = some .wallSet ∧ s.eu.permits[(0 : Port)].rights.wall = true
        ∧ wallSetMessage.num 3 ≤ 1 ∧ wallSetMessage.num 4 ≤ 2 ∧ wallSetMessage.num 7 ≤ 8
        ∧ s.wtb.state ≠ .unset ∧ (work wallSetMessage State.reset).wtb.state = .unset
        ∧ 1 < Message.num [19, 5, 2] 3 ∧ 2 < Message.num [19, 5, 1, 3] 4) := by decide

theorem witness_PhaseSetStores :
    (let m : Message := [20, 5, 5, 3, 0, 250];
      let s := work m free;
      s.NoStartBefore .later ∧ s.eu.state = .working ∧ s.eu.active = some (0, ⟨.a, m, .active false⟩)
        ∧ Message.kind m = some .phaseSet
        ∧ m.num 3 ≠ (0 : Port).val ∧ s.eu.permits[(0 : Port)].rights.wall = true
        ∧ (5 : Port).val = m.num 3 ∧ EchoMode.sixteenth.code = m.num 4
        ∧ 5 < Message.num [20, 5, 6, 3, 0, 250] 3 ∧ 3 < Message.num [20, 5, 5, 4, 0, 250] 4) := by decide

theorem witness_PermitAndLock :
    (let m : Message := [21, 5, 5, 9, 8, 63, 15];
      let s := work m free;
      s.NoStartBefore .later ∧ s.eu.state = .working ∧ s.eu.active = some (0, ⟨.a, m, .active false⟩)
        ∧ Message.kind m = some .permit
        ∧ s.eu.permits[(0 : Port)].rights.permit = true ∧ s.eu.lock = false ∧ (5 : Port).val = m.num 3
        ∧ m.num 5 < m.num 4 ∧ 5 < Message.num [21, 5, 6, 9, 8, 63, 15] 3)
      ∧ (let s := work [22, 5] free;
          s.NoStartBefore .later ∧ s.eu.active = some (0, ⟨.a, [22, 5], .active false⟩)
            ∧ Message.kind [22, 5] = some .lock) := by decide

theorem witness_LockHoldsPermissions :
    (let s := { free with eu := { free.eu with lock := true } };
      s.eu.lock = true ∧ (∃ t, exec .permit s = .next t) ∧ s.page.state ≠ .loading true) :=
  ⟨rfl, ⟨_, rfl⟩, by decide⟩

theorem witness_SavePhases :
    (let s := fun phase => { work [23, 5] free with page := ⟨.saving phase .default, none, false⟩ };
      (s .erase).NoStartBefore .later ∧ (s .erase).eu.active = some (0, ⟨.a, [23, 5], .active false⟩)
        ∧ (s .erase).page.state = .saving .erase .default ∧ (s .program).page.state = .saving .program .default
        ∧ (s .check).page.state = .saving .check .default ∧ (s .mark).page.state = .saving .mark .default
        ∧ (s .erase).eu.state = .working ∧ Message.kind [23, 5] = some .save
        ∧ { (s .mark).eu with state := .storing }.active = some (0, ⟨.a, [23, 5], .active false⟩)) := by decide

/-! ### Hypotheses met: notices -/

theorem witness_DutyMeetsOwedNotice (asked : Bool) :
    ∃ cell : CueNotice → Option CueNotice → Option CueNotice → Prop, ∀ duty owed result,
      cell duty owed result ↔ PortNotice.offer duty ⟨owed, asked, false⟩ = ⟨result, asked, false⟩ :=
  ⟨fun duty owed result => PortNotice.offer duty ⟨owed, asked, false⟩ = ⟨result, asked, false⟩, fun _ _ _ => Iff.rfl⟩

theorem witness_RetirementSettlesNotices :
    cue.abortAll .notReady 0 = some .notReady ∧ cue.notices[(0 : Port)].abortSent = false
      ∧ ¬ (cue.notices[(0 : Port)].owed = some .prepare ∧ cue.notices[(0 : Port)].askedSent = false)
      ∧ { cue with notices := Vector.replicate 6 ⟨some .prepare, false, false⟩ }.notices[(0 : Port)].owed = some .prepare
      ∧ { cue with notices := Vector.replicate 6 ⟨some (.abort .excluded), true, false⟩ }.notices[(0 : Port)].owed
        = some (.abort .excluded)
      ∧ cue.abortAll .notReady 1 = none ∧ Schedule.reset.aborts[(0 : Port)].length ≤ 16 := by decide

/-- A live cue with a COMMIT owed on port 0. -/
def owing (notice : CueNotice) : State :=
  cues 95 [{ cue with notices := cue.notices.set 0 ⟨some notice, true, false⟩ }]

/-- What a port owes, group by group. -/
def owesOf (s : State) (p : Port) : Nat → Prop
  | 1 => ∃ c ∈ s.sched.live, c.notices[p].owed = some .commit
  | 2 => s.sched.aborts[p] ≠ [] ∨ ∃ c ∈ s.sched.live, ∃ r, c.notices[p].owed = some (.abort r)
  | 3 => ∃ c ∈ s.sched.live, c.notices[p].owed = some .defer
  | 4 => ∃ c ∈ s.sched.live, c.notices[p].owed = some .prepare
  | 5 => s.composers[p].stepOwed = true
  | 6 => ∃ x ∈ s.eu.slots[p], x.isDone = true
  | 7 => s.composers[p].report ≠ none
  | _ => False

theorem witness_SendsFollowPriority :
    (owing .commit).links[(0 : Port)].tx = .idle ∧ (owing .commit).links[(0 : Port)].cts = true
      ∧ owesOf (owing .commit) 0 1 ∧ owesOf (owing .prepare) 0 4
      ∧ (∀ g, 1 ≤ g → g < 4 → ¬ owesOf (owing .prepare) 0 g)
      ∧ (onPort fun l => { l with cts := false }).links[(0 : Port)].cts = false := by
  refine ⟨by decide, by decide, ?_, ?_, fun g h1 h2 => ?_, by decide⟩
  · show ∃ c ∈ (owing .commit).sched.live, c.notices[(0 : Port)].owed = some .commit
    decide
  · show ∃ c ∈ (owing .prepare).sched.live, c.notices[(0 : Port)].owed = some .prepare
    decide
  · obtain rfl | rfl | rfl : g = 1 ∨ g = 2 ∨ g = 3 := by omega
    · show ¬ ∃ c ∈ (owing .prepare).sched.live, c.notices[(0 : Port)].owed = some .commit
      decide
    · rintro (h | ⟨c, hc, r, h⟩)
      · exact h (by decide)
      · revert h
        have : ∀ c ∈ (owing .prepare).sched.live, c.notices[(0 : Port)].owed = some .prepare := by decide
        rw [this c hc]
        exact fun h => by cases h
    · show ¬ ∃ c ∈ (owing .prepare).sched.live, c.notices[(0 : Port)].owed = some .defer
      decide

theorem witness_CueNoticesAreSent :
    (let c := { cue with notices := cue.notices.set 0 ⟨some .prepare, true, false⟩ };
      (owing .prepare).links[(0 : Port)].tx = .idle ∧ (owing .prepare).links[(0 : Port)].cts = true
        ∧ (owing .prepare).sched.live = [] ++ c :: [] ∧ ((owing .prepare).sched.live.map (·.id)).Nodup
        ∧ c.notices[(0 : Port)].owed = some .prepare
        ∧ (∀ d ∈ (owing .prepare).sched.live, d.notices[(0 : Port)].owed ≠ some .commit
          ∧ d.notices[(0 : Port)].owed ≠ some .defer)
        ∧ (owing .prepare).sched.aborts[(0 : Port)] = []
        ∧ ⟨0, 501, .asked⟩ ∈ c.participants ∧ (c.participants.map (·.port)).Nodup
        ∧ { Schedule.reset with aborts := Schedule.reset.aborts.set 0 [⟨9, .dropped⟩] }.aborts[(0 : Port)]
          = ⟨9, .dropped⟩ :: []) := by decide

theorem witness_ResultsAndStepsAreSent :
    (let x : EditSlot := ⟨.b, [23, 40], .done .accepted⟩;
      let y : EditSlot := ⟨.a, [22, 41], .queued⟩;
      let s := { free with
        composers := free.composers.set 1 ⟨true, none⟩
        eu := { free.eu with slots := free.eu.slots.set 0 [y, x] } };
      s.links[(0 : Port)].tx = .idle ∧ s.links[(0 : Port)].cts = true
        ∧ (∀ d ∈ s.sched.live, d.notices[(0 : Port)].owed = none) ∧ s.sched.aborts[(0 : Port)] = []
        ∧ s.composers[(1 : Port)].stepOwed = true ∧ s.composers[(0 : Port)].stepOwed = false
        ∧ s.eu.slots[(0 : Port)] = [y] ++ x :: [] ∧ (∀ z ∈ [y], z.isDone = false) ∧ ([y] ++ []).length < 2) := by
  decide

/-- A QUERY that is not valid, and for each form of a body a subject and an index with what they name. -/
theorem witness_ReportsAreSent :
    (let s := fun subject index : Byte => { cues 80 [cue] with composers := free.composers.set 0 ⟨false, some (subject, index)⟩ };
      (s 4 8).links[(0 : Port)].tx = .idle ∧ (s 4 8).links[(0 : Port)].cts = true
        ∧ (∀ d ∈ (s 4 8).sched.live, d.notices[(0 : Port)].owed = none) ∧ (s 4 8).sched.aborts[(0 : Port)] = []
        ∧ (s 4 8).composers[(0 : Port)].stepOwed = false ∧ (∀ x ∈ (s 4 8).eu.slots[(0 : Port)], x.isDone = false)
        ∧ (s 4 8).composers[(0 : Port)].report = some (4, 8) ∧ subjectOf 4 8 = none ∧ subjectOf 4 7 ≠ none
        ∧ (cue ∈ (s 0 11).sched.live ∧ cue.id = 11 ∧ ((s 0 11).sched.live.map (·.id)).Nodup
          ∧ cue.participants.length ≤ 6 ∧ cue.participants[1]? = some ⟨2, 503, .asked⟩)
        ∧ (∀ c ∈ (s 0 12).sched.live, c.id ≠ 12)
        ∧ (5 : Byte).toNat = (5 : Port).val ∧ (s 1 5).eu.permits[(5 : Port)].idRange = some (0, 255)
        ∧ (s 2 0).wtb.timebase = some ⟨.internal, 0, 1000⟩ ∧ State.reset.wtb.timebase = none
        ∧ (7 : Byte).toNat = (7 : ZoneId).val ∧ (s 3 7).dimmer.zones[(7 : ZoneId)].config.owner = none) := by decide

/-! ### Hypotheses met: signals -/

/-- A port in mode SIXTEENTH, one edge before its capture. -/
def watched : State :=
  { follow .locked id with watch := free.watch.set 0 ⟨⟨.sixteenth, 250⟩, 15, 0, 0, 2, 63, .inStep⟩ }

theorem witness_EchoEdgeIsJudged :
    State.reset.wtb.state = .unset ∧ State.reset.NoStartBefore .later ∧ watched.wtb.state ≠ .unset
      ∧ watched.NoStartBefore .later
      ∧ watched.watch[(0 : Port)].settings.mode = .sixteenth ∧ 16 ≤ watched.watch[(0 : Port)].prescaler + 1
      ∧ watched.wtb.c + min 6249 (watched.wtb.limit - watched.wtb.c) < watched.wtb.n / 2
      ∧ ¬ watched.wtb.c + min 6250 (watched.wtb.limit - watched.wtb.c) < watched.wtb.n / 2
      ∧ watched.watch[(1 : Port)].settings.mode = .unused := by decide

theorem witness_StrobeAtWatchAndSweep :
    strobeOf (.lateLimitStrobe order) watched = some order ∧ watched.NoStartBefore .later
      ∧ watched.watch[(1 : Port)].settings.mode = .unused
      ∧ (watched.watch[(0 : Port)].status = .inStep ∧ 64 ≤ watched.watch[(0 : Port)].frames + 1)
      ∧ (let s := wall fun t => { t with common := ⟨8, 1, 3, 2000⟩ };
          s.NoStartBefore .later ∧ s.wtb.pending = none ∧ s.wtb.postscaler + 1 = s.wtb.common.sweepDivisor
            ∧ 1 ≤ s.wtb.common.sweepCount
            ∧ { s.ambient with sweepCount := 8 }.sweep = .idle) := by decide

theorem witness_ConversionEnds :
    (let s := { free with ambient := { Ambient.reset with sweep := .sweeping 8 7, sweepCount := 8 } };
      s.NoStartBefore .later ∧ 1023 ≤ 1023 ∧ s.ambient.sweep = .sweeping 8 7 ∧ 8 ≤ 8 ∧ 8 ≤ (7 : SensorId).val + 1
        ∧ (6 : SensorId).val + 1 < 8 ∧ s.ambient.sensors[(7 : SensorId)].state = .unseeded)
      ∧ free.ambient.sweep = .idle := by decide

theorem witness_FilterStaysOnScale : 65472 ≤ 65472 ∧ 1023 ≤ 1023 ∧ 65472 ≤ 64 * 1023 ∧ 64 * 1022 < 65472 := by decide

theorem witness_CurveTarget :
    65472 ≤ 65472 ∧ (7 : Fin 9).val = 65472 / 8192 ∧ (8 : Fin 9).val = 65472 / 8192 + 1
      ∧ (1 : Fin 9).val = 8192 / 8192 ∧ (0 : Fin 9).val = 8191 / 8192 := by decide

theorem witness_FadeFactorIsLeast :
    (∀ c ∈ [fadeCue], 1 ≤ c.lo ∧ 1 ≤ c.li) ∧ fadeCue.transition = .dim ∧ fadeCue.state = .armed
      ∧ inMask fadeCue.armed 2 = true ∧ fadeCue.ahead 10 = (fadeCue.lo : Int) - 3 ∧ fadeCue.ahead 14 = -((4 : Nat) : Int)
      ∧ fadeFactor 8 [fadeCue] (some 2) < 256 := by decide

theorem witness_StrobeComputesZones :
    (let s := { free with dimmer := { free.dimmer with zones := free.dimmer.zones.set 5 zone5 } };
      strobeOf (.freeRunningStrobe order) s = some order ∧ zone5 = s.dimmer.zones[(5 : ZoneId)]
        ∧ zone5.config.dmin ≤ zone5.config.dmax ∧ zone5.config.sensor = some 4
        ∧ ZoneConfig.default.sensor = none) := by decide

theorem witness_WrapLoadsCompares : free.NoStartBefore .later ∧ free.dimmer.running = true ∧ 0 < free.dimmer.p := by decide

theorem witness_ResetsSetEveryBlock :
    free.NoStartBefore .later ∧ saveWaits.page.state = .idle
      ∧ ∃ snapshot, saveWaits.startDue.page.state = .saving .erase snapshot :=
  ⟨by decide, by decide, ⟨_, rfl⟩⟩

theorem witness_LoadStartsThePart :
    State.reset.NoStartBefore .later ∧ State.reset.page.state = .loading false
      ∧ (let set := { Settings.default with timebase := some ⟨.reference, 2, 12500⟩ };
          let s := { State.reset with page := ⟨.loading true, some set, true⟩ };
          s.NoStartBefore .later ∧ s.page.state = .loading true ∧ s.page.marker = true ∧ s.page.record = some set
            ∧ s.links[(0 : Port)].holding = none ∧ s.watch[(0 : Port)].status = .unused)
      ∧ { State.reset with page := ⟨.loading true, none, false⟩ }.page.marker = false := by decide

/-! ### A lawful part with a live cue -/

/-- FREE at W = 80, with `cue` ASKING: the state whose steps the laws are about. -/
def lawful : State := cues 80 [cue]

theorem lawful_cue : cue.Lawful 80 where
  stored :=
    { lo_range := by decide
      li_range := by decide
      margin_pos := by decide
      margin_dim := by decide
      margin_lt := by decide
      lead_le := by decide
      deferStep_range := by decide
      deferrals_le := by decide
      interval_range := fun i h => by cases h
      repeatCount_le := by decide
      participants_range := by decide
      ports_nodup := by decide }
  onTime := by show _ ∧ _; decide
  inState := by show _ ∧ _ ∧ _; decide
  onPorts := by show ∀ p : Port, _; decide

theorem lawful_wtb : lawful.wtb.Lawful where
  common := ⟨by decide, by decide, by decide, by decide⟩
  timebase b h := by cases h; exact ⟨by decide, by decide⟩
  pending set h := by cases h
  unset_iff := by decide
  unset_still h := absurd h (by decide)
  free_source _ b h := by cases h; rfl
  follow_source h := absurd h (by decide)
  count_le := by decide
  interval_le i h := by cases h
  measures_only := by decide
  relockRun_le := by decide
  missRun_le := by decide
  missRun_locked := by decide
  postscaler_lt := by decide
  prescale_lt := by decide

theorem lawful_link : port.Lawful where
  assembling buffer count h := by cases h
  holding_edit m h := by cases h
  stopped_iff := by decide
  stopped_still h := absurd h (by decide)
  waiting_cts rest h := by cases h

theorem lawful_watch : EchoWatch.reset.Lawful := by
  constructor <;> decide

theorem lawful_zone : Zone.reset.Lawful where
  config := ⟨by decide, by decide, by decide, by decide, by decide⟩
  ba_range := by decide
  g_le := by decide
  d_le := by decide
  buffer_le := by decide
  active_le := by decide

theorem lawful_part : lawful.Lawful where
  wtb := lawful_wtb
  links p := by
    have h : ∀ p : Port, lawful.links[p] = port := by decide
    rw [h p]; exact lawful_link
  eu := eu_lawful_free
  sched :=
    { places := by decide
      ids := by decide
      fireOrder := by decide
      apart := List.pairwise_singleton _ _
      cues := fun c h => by
        obtain rfl := List.mem_singleton.1 h
        exact lawful_cue
      outcomes_le := by decide
      aborts_le := by decide }
  watch p := by
    have h : ∀ p : Port, lawful.watch[p] = .reset := by decide
    rw [h p]; exact lawful_watch
  ambient :=
    { sweepCount_le := by decide
      filterShift_le := by decide
      sweeping := fun k i h => by cases h
      sensors := fun i => by
        have h : ∀ i : SensorId, lawful.ambient.sensors[i] = .reset := by decide
        rw [h i]; constructor <;> decide }
  dimmer :=
    { zones := fun z => by
        have h : ∀ z : ZoneId, lawful.dimmer.zones[z] = .reset := by decide
        rw [h z]; exact lawful_zone
      period_range := by decide
      counterPeriod_range := by decide
      counter_lt := by decide
      divider_lt := by decide
      stopped_still := by decide }
  page := ⟨fun set h => (by cases h), (by decide), fun phase snapshot h => (by cases h)⟩
  joined :=
    { holding_full := by show ∀ p : Port, _; decide
      storing_iff := ⟨fun h => absurd h (by decide), fun ⟨_, _, h⟩ => by cases h⟩
      unset_empty := by decide
      loading := fun begun h => by cases h }

/-- The lawful part steps, on its empty queue and with a strobe in front: the hypotheses of StepKeepsEditLaw,
StepKeepsScheduleLaw, StepKeepsSignalLaws and StepKeepsLaws. -/
theorem witness_StepKeepsLaws :
    lawful.Lawful ∧ (∃ t, step lawful = .next t)
      ∧ ∃ t, step { lawful with pending := [.freeRunningStrobe order] } = .next t :=
  ⟨lawful_part, ⟨_, rfl⟩, ⟨_, rfl⟩⟩

end Sys2Proof.Tests
end

section
/-! PROOFS. The wall timebase (chapter 1): what each of its commands makes of it in one equation, and the statements about
strobes, edges, the interval count, W and WALL_SET. -/

namespace Sys2Proof.Machine

/-! ### The passing of ticks, by what it does to the interval count -/

/-- Ticks leave a closed interval count closed, and the relock run as it is. -/
theorem passTicks_closed {t : Wtb} (k : Nat) (hi : t.interval = none) :
    (t.passTicks k).interval = none ∧ (t.passTicks k).relockRun = t.relockRun := by
  unfold Wtb.passTicks
  split
  · exact ⟨hi, rfl⟩
  · simp [Wtb.intervalAfter, Wtb.relockRunAfter, hi]

/-- Ticks within N + N/8 advance an open interval count (R10). -/
theorem passTicks_within {t : Wtb} {k i : Nat} (hs : t.state ≠ .unset) (hi : t.interval = some i)
    (hk : i + k ≤ t.n + t.n / 8) :
    (t.passTicks k).interval = some (i + k) ∧ (t.passTicks k).relockRun = t.relockRun := by
  have hl : i + k ≤ t.lateLimit := hk
  simp [passTicks_interval, passTicks_relockRun, hs, Wtb.intervalAfter, Wtb.relockRunAfter, hi, hl]

/-- Ticks that bring an open interval count above N + N/8 close it and clear the relock run (R10). -/
theorem passTicks_beyond {t : Wtb} {k i : Nat} (hs : t.state ≠ .unset) (hi : t.interval = some i)
    (hk : ¬ i + k ≤ t.n + t.n / 8) :
    (t.passTicks k).interval = none ∧ (t.passTicks k).relockRun = 0 := by
  have hl : ¬ i + k ≤ t.lateLimit := hk
  simp [passTicks_interval, passTicks_relockRun, hs, Wtb.intervalAfter, Wtb.relockRunAfter, hi, hl]

/-! ### What a strobe makes of the fields that its two forms share -/

theorem wtbStrobe_plain_state {t : Wtb} (h : t.pending = none) : t.strobe.state = t.state := by
  rw [wtbStrobe_plain t h]

theorem wtbStrobe_plain_missRun {t : Wtb} (h : t.pending = none) : t.strobe.missRun = t.missRun := by
  rw [wtbStrobe_plain t h]

theorem wtbStrobe_plain_relockRun {t : Wtb} (h : t.pending = none) : t.strobe.relockRun = t.relockRun := by
  rw [wtbStrobe_plain t h]

theorem wtbStrobe_plain_interval {t : Wtb} (h : t.pending = none) : t.strobe.interval = t.interval := by
  rw [wtbStrobe_plain t h]

/-! ### The causes of a strobe -/

/-- The timebase as a command that ends the frame leaves it before the strobe (R3, R12, R13, R14). -/
def Wtb.endedBy (i : Instr) (t : Wtb) : Wtb :=
  match i with
  | .freeRunningStrobe _ => t.passToLimit
  | .lateLimitStrobe _ => t.passToLimit.lateLimitMiss
  | .relockFrameLimit _ => t.passToLimit.toHoldover
  | .referenceEdge ticks _ => { t.passUpTo ticks with missRun := 0 }
  | _ => t

/-- An edge at N/2 or later of a LOCKED frame ends the frame and clears the miss run (R12, R13). -/
theorem referenceEdge_locked_late {t : Wtb} (hs : t.state = .locked) (hc : t.half ≤ t.c) :
    t.referenceEdge = ({ t with missRun := 0 }, true) := by
  simp [Wtb.referenceEdge, hs, Nat.not_lt.2 hc]

/-- An edge below N/2 of a LOCKED frame sets GLITCH in an ordinary frame, and does nothing else (R12, R13). -/
theorem referenceEdge_locked_early {t : Wtb} (hs : t.state = .locked) (hc : t.c < t.half) :
    t.referenceEdge = ({ t with glitch := t.glitch || !t.relockFrame }, false) := by
  have keep : ∀ g, g = t.glitch → t = { t with glitch := g } := by rintro g rfl; rfl
  cases hr : t.relockFrame
  · simp [Wtb.referenceEdge, hs, hc, hr]
  · simpa [Wtb.referenceEdge, hs, hc, hr] using keep _ rfl

/-- An edge in SEEKING or HOLDOVER is measured (R10). -/
theorem referenceEdge_measures {t : Wtb} (hs : t.state = .seeking ∨ t.state = .holdover) :
    t.referenceEdge = (t.measureEdge, false) := by
  rcases hs with hs | hs <;> simp [Wtb.referenceEdge, hs]

/-- An edge in UNSET or FREE is ignored (R8, R9). -/
theorem referenceEdge_ignored {t : Wtb} (hs : t.state = .unset ∨ t.state = .free) : t.referenceEdge = (t, false) := by
  rcases hs with hs | hs <;> simp [Wtb.referenceEdge, hs]

theorem passUpTo_c {ticks : Nat} {t : Wtb} (h : t.state ≠ .unset) :
    (t.passUpTo ticks).c = t.c + min ticks (t.limit - t.c) :=
  passTicks_c _ _ h

/-- A command that ends the frame strobes the part on the timebase that its cause leaves. -/
theorem exec_endedBy {i : Instr} {s : State} {o : StrobeOrder} (h : strobeOf i s = some o) :
    exec i s = .next ({ s.atMoment o.moment with wtb := (s.atMoment o.moment).wtb.endedBy i }.strobe o) := by
  rw [← strobeOf_atMoment i o.moment] at h
  suffices key : ∀ u : State, strobeOf i u = some o → (∀ f : State → State, State.event o.moment f s = .next (f u)) →
      exec i s = .next ({ u with wtb := u.wtb.endedBy i }.strobe o) from key _ h fun _ => rfl
  clear h
  intro u h he
  cases i <;> simp [strobeOf] at h
  case freeRunningStrobe o' =>
    obtain ⟨h, rfl⟩ := h
    have hr : u.wtb.state.runsFree = true := by
      rcases h with h | h | h <;> simp [h, TimebaseState.runsFree]
    simp [exec, execFreeRunningStrobe, he, hr, Wtb.endedBy]
  case lateLimitStrobe o' =>
    obtain ⟨⟨hs, hr⟩, rfl⟩ := h
    simp [exec, execLateLimitStrobe, he, hs, hr, Wtb.endedBy]
  case relockFrameLimit o' =>
    obtain ⟨⟨hs, hr⟩, rfl⟩ := h
    simp [exec, execRelockFrameLimit, he, hs, hr, Wtb.endedBy]
  case referenceEdge ticks o' =>
    obtain ⟨⟨hs, hc⟩, rfl⟩ := h
    have hl : (u.wtb.passUpTo ticks).referenceEdge = ({ u.wtb.passUpTo ticks with missRun := 0 }, true) := by
      refine referenceEdge_locked_late (by simpa [Wtb.passUpTo] using hs) ?_
      rw [passUpTo_c (by simp [hs])]
      simpa [Wtb.passUpTo, Wtb.half] using hc
    simp [exec, execReferenceEdge, he, hl, Wtb.endedBy]

/-- The timebase after a command that ends the frame: GLITCH apart, which a WALL report before the event may clear, it is the
strobe of what the cause leaves of the timebase. -/
theorem exec_endedBy_wtb {i : Instr} {s : State} {o : StrobeOrder} (h : strobeOf i s = some o) :
    ∃ t g, exec i s = .next t ∧ t.wtb = ({ s.wtb with glitch := g }.endedBy i).strobe :=
  ⟨_, _, exec_endedBy h, by rw [strobe_wtb_eq, atMoment_wtb]⟩

/-- An edge that ends no frame changes the timebase alone. -/
theorem exec_referenceEdge_quiet {s : State} {ticks : Nat} {o : StrobeOrder} {t : Wtb} (hn : s.NoStartBefore o.moment)
    (h : (s.wtb.passUpTo ticks).referenceEdge = (t, false)) :
    exec (.referenceEdge ticks o) s = .next { s with wtb := t } := by
  simp [exec, execReferenceEdge, event_noStart hn, h]

/-! ### Strobes -/

/-- Settles O4: every cause hands the strobe a timebase that differs from the one before in counts and runs alone. -/
theorem strobeAtTimebase : Obligations.StrobeAtTimebase := by
  intro i s o h hn
  obtain ⟨t, ht, hw, htb, hc, hp, hps, hg⟩ := exec_of_strobeOf h
  rw [atMoment_noStart hn] at ht hg
  refine ⟨_, ht, by simp, by simp [hw], by simp, by simp, by simp [hg], by simp, fun hnone => ?_, fun set hset => ?_,
    rfl, rfl, rfl, rfl, rfl⟩
  · rw [strobe_wtb_eq, wtbStrobe_plain t (hp.trans hnone)]
    exact ⟨htb, hc, by simp only [hps, hc]⟩
  · rw [strobe_wtb_eq, wtbStrobe_apply t set (hp.trans hset)]
    exact ⟨rfl, rfl, rfl, rfl, rfl, rfl⟩

/-- A late limit leaves LOCKED with one more miss, or HOLDOVER with both runs cleared and the interval count closed (R14). -/
theorem lateLimitMiss_eq (t : Wtb) :
    t.lateLimitMiss = if t.missRun + 1 < 3 then { t with missRun := t.missRun + 1 } else t.toHoldover := rfl

/-- Settles O5: the table of R5 on the state that the cause of the strobe leaves. -/
theorem pendingSetChangesState : Obligations.PendingSetChangesState := by
  intro i s o set h hset
  obtain ⟨t, g, ht, hw⟩ := exec_endedBy_wtb h
  have hp : ({ s.wtb with glitch := g }.endedBy i).pending = some set := by
    cases i <;> simp [Wtb.endedBy, Wtb.passToLimit, Wtb.passUpTo, Wtb.toHoldover, hset]
  rw [wtbStrobe_apply _ _ hp] at hw
  refine ⟨t, ht, fun hint => ?_, fun href => ⟨fun hs => ?_, fun hs => ?_, ?_, ?_, ?_⟩⟩
  · have hstate : ({ s.wtb with glitch := g }.endedBy i).state ≠ .unset := by
      cases i <;> simp [strobeOf] at h <;>
        simp [Wtb.endedBy, Wtb.passToLimit, Wtb.passUpTo, Wtb.toHoldover, lateLimitMiss_eq]
      case freeRunningStrobe => rcases h.1 with h | h | h <;> simp [h]
      case lateLimitStrobe => split <;> simp [h.1.1]
      case referenceEdge => simp [h.1.1]
    have hfree : ({ s.wtb with glitch := g }.endedBy i).state.applied set.timebase.source = .free := by
      rw [hint]
      cases hst : ({ s.wtb with glitch := g }.endedBy i).state <;> simp_all [TimebaseState.applied]
    rw [hw]
    exact ⟨hfree, if_pos hfree⟩
  · have hi : i = .freeRunningStrobe o := by
      cases i <;> simp [strobeOf] at h <;> simp_all
    subst hi
    rw [hw]
    rcases hs with hs | hs <;> simp [Wtb.endedBy, Wtb.passToLimit, hs, href, TimebaseState.applied]
  · have hi : i = .freeRunningStrobe o := by
      cases i <;> simp [strobeOf] at h <;> simp_all
    subst hi
    rw [hw]
    simp [Wtb.endedBy, Wtb.passToLimit, hs, href, TimebaseState.applied]
  · rintro ticks rfl
    have hs : s.wtb.state = .locked := by simp [strobeOf] at h; exact h.1
    rw [hw]
    simp [Wtb.endedBy, Wtb.passUpTo, hs, href, TimebaseState.applied]
  · rintro rfl
    have hs : s.wtb.state = .locked := by simp [strobeOf] at h; exact h.1
    rw [hw]
    simp only [Wtb.endedBy, Wtb.passToLimit, lateLimitMiss_eq, passTicks_missRun]
    split <;> simp [Wtb.toHoldover, hs, href, TimebaseState.applied]
  · rintro rfl
    rw [hw]
    simp [Wtb.endedBy, Wtb.toHoldover, href, TimebaseState.applied]

/-- Settles O6: without a pending set the strobe keeps state, runs and interval count as the limit leaves them. -/
theorem frameEndsAtItsLimit : Obligations.FrameEndsAtItsLimit := by
  intro s o hp
  refine ⟨fun hs => ?_, fun hs hr => ?_, fun hs hr => ?_⟩
  · obtain ⟨t, g, ht, hw⟩ := exec_endedBy_wtb (i := .freeRunningStrobe o) (s := s) (if_pos hs)
    have hset : s.wtb.state ≠ .unset := by rcases hs with h | h | h <;> simp [h]
    have hlim : ({ s.wtb with glitch := g } : Wtb).limit = s.wtb.n := by
      rcases hs with h | h | h <;> simp [Wtb.limit, h, Wtb.n]
    simp only [Wtb.endedBy, Wtb.passToLimit, hlim] at hw
    have hp' : ({ s.wtb with glitch := g }.passTicks (s.wtb.n - s.wtb.c)).pending = none := by simpa using hp
    refine ⟨t, ht, ?_⟩
    rw [hw, wtbStrobe_plain_state hp', wtbStrobe_plain_missRun hp', wtbStrobe_plain_relockRun hp',
      wtbStrobe_plain_interval hp']
    refine ⟨by simp, by simp, fun hi => passTicks_closed _ hi, fun k hi => ?_⟩
    split
    · next hk => exact passTicks_within hset hi hk
    · next hk => exact passTicks_beyond hset hi hk
  · obtain ⟨t, g, ht, hw⟩ := exec_endedBy_wtb (i := .lateLimitStrobe o) (s := s) (if_pos ⟨hs, hr⟩)
    have hp' : (({ s.wtb with glitch := g } : Wtb).endedBy (.lateLimitStrobe o)).pending = none := by
      simpa [Wtb.endedBy, Wtb.passToLimit] using hp
    refine ⟨t, ht, ?_⟩
    rw [hw, wtbStrobe_plain_state hp', wtbStrobe_plain_missRun hp', wtbStrobe_plain_relockRun hp',
      wtbStrobe_plain_interval hp']
    simp only [Wtb.endedBy, Wtb.passToLimit, lateLimitMiss_eq, passTicks_missRun]
    split <;> simp [Wtb.toHoldover, hs]
  · obtain ⟨t, g, ht, hw⟩ := exec_endedBy_wtb (i := .relockFrameLimit o) (s := s) (if_pos ⟨hs, hr⟩)
    have hp' : (({ s.wtb with glitch := g } : Wtb).endedBy (.relockFrameLimit o)).pending = none := by
      simpa [Wtb.endedBy, Wtb.passToLimit, Wtb.toHoldover] using hp
    refine ⟨t, ht, ?_⟩
    rw [hw, wtbStrobe_plain_state hp', wtbStrobe_plain_missRun hp', wtbStrobe_plain_relockRun hp',
      wtbStrobe_plain_interval hp']
    exact ⟨rfl, rfl, rfl, rfl⟩

/-! ### Reference edges -/

/-- Settles O7: the count that the ticks give decides between the end of the frame and a spurious edge. -/
theorem edgeInLockedFrame : Obligations.EdgeInLockedFrame := by
  intro s ticks c o hn hs hc
  have hset : s.wtb.state ≠ .unset := by simp [hs]
  refine ⟨fun hlate hp => ?_, fun hearly => ?_⟩
  · have ho : strobeOf (.referenceEdge ticks o) s = some o := if_pos ⟨hs, hc ▸ hlate⟩
    refine ⟨_, exec_endedBy ho, ?_⟩
    rw [atMoment_noStart hn, strobe_wtb_eq]
    have hp' : (s.wtb.endedBy (.referenceEdge ticks o)).pending = none := by simpa [Wtb.endedBy, Wtb.passUpTo] using hp
    rw [wtbStrobe_plain_state hp', wtbStrobe_plain_missRun hp']
    simp [Wtb.endedBy, Wtb.passUpTo, hs]
  · have hq := referenceEdge_locked_early (t := s.wtb.passUpTo ticks) (by simpa [Wtb.passUpTo] using hs) (by
      rw [passUpTo_c hset, ← hc]; simpa [Wtb.passUpTo, Wtb.half] using hearly)
    refine ⟨_, exec_referenceEdge_quiet hn hq, rfl, ?_⟩
    rw [hc, ← passUpTo_c hset]
    simp [Wtb.passUpTo, hs]

/-- What an edge in SEEKING or HOLDOVER makes of the timebase (R10, R11), case by case. -/
theorem measureEdge_cases (t : Wtb) :
    t.interval = none ∧ t.measureEdge = { t with interval := some 0 }
      ∨ ∃ k, t.interval = some k ∧
        ((k < t.n - t.n / 8 ∨ t.lateLimit < k) ∧ t.measureEdge = { t with relockRun := 0, interval := some 0 }
          ∨ t.n - t.n / 8 ≤ k ∧ k ≤ t.lateLimit ∧ t.relockRun + 1 < 4
            ∧ t.measureEdge = { t with relockRun := t.relockRun + 1, interval := some 0 }
          ∨ t.n - t.n / 8 ≤ k ∧ k ≤ t.lateLimit ∧ ¬ t.relockRun + 1 < 4
            ∧ t.measureEdge
              = { t with state := .locked, relockFrame := true, missRun := 0, relockRun := 0, interval := none }) := by
  unfold Wtb.measureEdge
  split
  · next h => exact .inl ⟨h, rfl⟩
  · next k h =>
    refine .inr ⟨k, h, ?_⟩
    split
    · next hk => exact .inl ⟨.inl hk, rfl⟩
    · next hk =>
      split
      · next hl =>
        unfold Wtb.goodInterval
        split
        · next hr => exact .inr (.inl ⟨Nat.not_lt.1 hk, hl, hr, rfl⟩)
        · next hr => exact .inr (.inr ⟨Nat.not_lt.1 hk, hl, hr, rfl⟩)
      · next hl => exact .inl ⟨.inr (Nat.not_le.1 hl), rfl⟩

/-- An edge in SEEKING or HOLDOVER changes state, runs, relock mark and interval count at most. -/
theorem measureEdge_frame (t : Wtb) :
    t.measureEdge = { t with
      state := t.measureEdge.state, missRun := t.measureEdge.missRun, relockRun := t.measureEdge.relockRun
      relockFrame := t.measureEdge.relockFrame, interval := t.measureEdge.interval } := by
  rcases measureEdge_cases t with ⟨_, h⟩ | ⟨_, _, ⟨_, h⟩ | ⟨_, _, _, h⟩ | ⟨_, _, _, h⟩⟩ <;> rw [h]

/-- Settles O8: the ticks bring the interval count to the value that the edge judges. -/
theorem edgeMeasuresInterval : Obligations.EdgeMeasuresInterval := by
  intro s ticks o hn hs hfit
  have hset : s.wtb.state ≠ .unset := by rcases hs with h | h <;> simp [h]
  have hpass : s.wtb.passUpTo ticks = s.wtb.passTicks ticks := by
    have hlim : s.wtb.limit = s.wtb.n := by rcases hs with h | h <;> simp [Wtb.limit, h]
    rw [Wtb.passUpTo, hlim, Nat.min_eq_left (by omega)]
  have hq := referenceEdge_measures (t := s.wtb.passTicks ticks) (by simpa using hs)
  rw [← hpass] at hq
  refine ⟨_, exec_referenceEdge_quiet hn hq, rfl, ?_⟩
  rw [hpass, measureEdge_frame]
  refine ⟨passTicks_c _ _ hset, by simp, by simp, by simp, by simp, by simp, by simp, by simp, fun hi => ?_, fun k hi => ?_⟩
  · obtain ⟨hint, hrun⟩ := passTicks_closed ticks hi
    rcases measureEdge_cases (s.wtb.passTicks ticks) with ⟨_, h⟩ | ⟨_, hk, _⟩
    · rw [h]; exact ⟨rfl, hrun, by simp⟩
    · simp [hint] at hk
  · by_cases hlate : k + ticks ≤ s.wtb.n + s.wtb.n / 8
    · obtain ⟨hint, hrun⟩ := passTicks_within hset hi hlate
      rcases measureEdge_cases (s.wtb.passTicks ticks) with ⟨hk, _⟩ | ⟨j, hj, hcase⟩
      · simp [hint] at hk
      obtain rfl : k + ticks = j := by simpa [hint] using hj
      simp only [passTicks_n, Wtb.lateLimit, hrun] at hcase
      rcases hcase with ⟨hout, h⟩ | ⟨hlo, _, hr, h⟩ | ⟨hlo, _, hr, h⟩ <;> rw [h]
      · exact ⟨fun _ => ⟨rfl, rfl, by simp⟩, fun h1 h2 => by omega⟩
      · exact ⟨fun h' => by omega, fun _ _ => by simp [hr]⟩
      · exact ⟨fun h' => by omega, fun _ _ => by simp [hr]⟩
    · obtain ⟨hint, hrun⟩ := passTicks_beyond hset hi hlate
      rcases measureEdge_cases (s.wtb.passTicks ticks) with ⟨_, h⟩ | ⟨_, hk, _⟩
      · rw [h]; exact ⟨fun _ => ⟨rfl, hrun, by simp⟩, fun _ h' => absurd h' hlate⟩
      · simp [hint] at hk

/-! ### Quiet events -/

/-- Settles O9: neither an ignored edge nor the interval count nor the FRAME pulse reaches another block. -/
theorem quietTimebaseEvents : Obligations.QuietTimebaseEvents := by
  rintro s ticks o m rfl hn
  refine ⟨fun hs => ?_, fun hs hi => ?_, fun k lacking hi hl hs => ⟨fun hfit => ?_, fun hlate => ?_⟩, ?_⟩
  · have hq := referenceEdge_ignored (t := s.wtb.passUpTo ticks) (.inl (by simpa [Wtb.passUpTo] using hs))
    rw [exec_referenceEdge_quiet hn hq, Wtb.passUpTo, passTicks_unset _ _ hs]
  · have hset : s.wtb.state ≠ .unset := by simp [hs]
    have hq := referenceEdge_ignored (t := s.wtb.passUpTo ticks) (.inr (by simpa [Wtb.passUpTo] using hs))
    refine ⟨_, exec_referenceEdge_quiet hn hq, ?_, ?_⟩
    · obtain ⟨hint, hrun⟩ := passTicks_closed (min ticks (s.wtb.limit - s.wtb.c)) hi
      conv_lhs => rw [Wtb.passUpTo, passTicks_frame, hint, hrun, ← hi]
      rfl
    · simp [passUpTo_c hset, Wtb.limit, hs]
  · have hpass : s.wtb.intervalTooLong = { s.wtb.passTicks lacking with relockRun := 0, interval := none } := by
      rcases hs with hs | hs <;>
        simp [Wtb.intervalTooLong, hi, Wtb.lateLimit, Wtb.limit, ← hl, hs, TimebaseState.measures, hfit]
    have hset : s.wtb.state ≠ .unset := by rcases hs with h | h <;> simp [h]
    refine ⟨{ s with wtb := s.wtb.intervalTooLong }, by simp [exec, execIntervalTooLong, event_noStart hn], ?_⟩
    rw [hpass, passTicks_frame, passTicks_c _ _ hset]
  · have hstay : s.wtb.intervalTooLong = s.wtb := by
      rcases hs with hs | hs <;>
        simp [Wtb.intervalTooLong, hi, Wtb.lateLimit, Wtb.limit, ← hl, hs, Nat.not_le.2 hlate]
    simp [exec, execIntervalTooLong, event_noStart hn, hstay]
  · simp [exec, execFramePulseEnd, event_noStart hn]

/-! ### W -/

@[simp] theorem passUpTo_w (k : Nat) (t : Wtb) : (t.passUpTo k).w = t.w := passTicks_w _ t

@[simp] theorem referenceEdge_w (t : Wtb) : t.referenceEdge.1.w = t.w := by
  unfold Wtb.referenceEdge
  split
  · rfl
  · rfl
  · exact measureEdge_frame t ▸ rfl
  · exact measureEdge_frame t ▸ rfl
  · repeat' split
    all_goals rfl

@[simp] theorem intervalTooLong_w (t : Wtb) : t.intervalTooLong.w = t.w := by
  unfold Wtb.intervalTooLong
  repeat' split
  · rfl
  · simp
  · rfl

@[simp] theorem accept_w (set : WallSet) (t : Wtb) : (t.accept set).w = t.w := by
  unfold Wtb.accept; split <;> rfl

@[simp] theorem loaded_w (set : Settings) (t : Wtb) : (t.loaded set).w = t.w := by
  unfold Wtb.loaded; split <;> rfl

@[simp] theorem atMoment_w (m : Moment) (s : State) : (s.atMoment m).wtb.w = s.wtb.w := by
  rw [atMoment_wtb]

@[simp] theorem send_w (p : Port) (x : Choice) (s : State) : (s.send p x).wtb.w = s.wtb.w := by
  rw [send_frame]

@[simp] theorem startOn_w (p : Port) (s : State) : (s.startOn p).wtb.w = s.wtb.w := by
  rw [startOn_frame]

@[simp] theorem finishEdit_wtb (p : Port) (outcome : EditOutcome) (s : State) :
    (s.finishEdit p outcome).wtb = s.wtb := by
  rw [finishEdit_frame]

@[simp] theorem receive_wtb (p : Port) (ch : LineChar) (s : State) : (s.receive p ch).wtb = s.wtb := by
  rw [receive_frame]

@[simp] theorem completeSave_wtb (outcome : EditOutcome) (s : State) : (s.completeSave outcome).wtb = s.wtb := by
  unfold State.completeSave; split <;> simp

/-- A completion keeps W when what an ACCEPTED edit does keeps it. -/
theorem complete_w {kind : RequestKind} {outcome : Port → Message → State → EditOutcome}
    {apply : Port → Message → State → State} (h : ∀ p m u, (apply p m u).wtb.w = u.wtb.w) (s : State) :
    (s.complete kind outcome apply).wtb.w = s.wtb.w := by
  rcases complete_cases kind outcome apply s with hc | ⟨p, slot, _, _, _, ⟨_, hc⟩ | ⟨_, hc⟩⟩ <;> rw [hc]
  · rw [finishEdit_wtb, h]
  · rw [finishEdit_wtb]

theorem cuePutApply_wtb (p : Port) (m : Message) (s : State) : (cuePutApply p m s).wtb = s.wtb := by
  unfold cuePutApply; split <;> rfl

theorem cueDropApply_wtb (p : Port) (m : Message) (s : State) : (cueDropApply p m s).wtb = s.wtb := by
  unfold cueDropApply; split <;> rfl

theorem zoneSetApply_wtb (p : Port) (m : Message) (s : State) : (zoneSetApply p m s).wtb = s.wtb := by
  unfold zoneSetApply; split <;> rfl

theorem acceptWall_wtb (set : WallSet) (s : State) : (s.acceptWall set).wtb = s.wtb.accept set := by
  unfold State.acceptWall; split <;> rfl

theorem wallSetApply_w (p : Port) (m : Message) (s : State) : (wallSetApply p m s).wtb.w = s.wtb.w := by
  unfold wallSetApply
  split
  · rfl
  · rw [acceptWall_wtb, accept_w]

theorem phaseSetApply_wtb (p : Port) (m : Message) (s : State) : (phaseSetApply p m s).wtb = s.wtb := by
  unfold phaseSetApply; split <;> rfl

theorem permitApply_wtb (p : Port) (m : Message) (s : State) : (permitApply p m s).wtb = s.wtb := by
  unfold permitApply; split <;> rfl

/-- An event whose effect keeps W keeps W, whatever starts come before it. -/
theorem event_w {m : Moment} {f : State → State} {s t : State} (h : s.event m f = .next t)
    (hf : (f (s.atMoment m)).wtb.w = (s.atMoment m).wtb.w) : t.wtb.w = s.wtb.w := by
  cases h
  rw [hf, atMoment_w]

/-- Everything a send command can do (R31): nothing, or the start that is due on its port. -/
theorem exec_send_cases {i : Instr} {p : Port} (hi : sendPort i = some p) (s : State) :
    exec i s = .next s ∨ ∃ x, s.chosen p = some x ∧ exec i s = .next (s.send p x) := by
  cases i <;> simp only [sendPort, Option.some.injEq, reduceCtorEq] at hi <;> subst hi <;>
    simp only [exec, execPrepare, execDefer, execCommit, execAbort, execEditResult, execReport, execStep] <;>
    split
  all_goals first
    | exact .inl rfl
    | exact .inr ⟨_, ‹_›, rfl⟩

/-- A reference edge ends the frame only where `strobeOf` says so. -/
theorem referenceEdge_stays {u : State} {ticks : Nat} {o : StrobeOrder} (hn : strobeOf (.referenceEdge ticks o) u = none) :
    (u.wtb.passUpTo ticks).referenceEdge.2 = false := by
  cases hs : u.wtb.state with
  | locked =>
    have hc : (u.wtb.passUpTo ticks).c < (u.wtb.passUpTo ticks).half := by
      rw [passUpTo_c (by simp [hs])]
      simpa [strobeOf, hs, Wtb.passUpTo, Wtb.half] using hn
    rw [referenceEdge_locked_early (by simpa [Wtb.passUpTo] using hs) hc]
  | unset | free => rw [referenceEdge_ignored (by simp [Wtb.passUpTo, hs])]
  | seeking | holdover => rw [referenceEdge_measures (by simp [Wtb.passUpTo, hs])]

/-- A command that ends no frame and is no reset of the part keeps W (R7). -/
theorem exec_w_of_no_strobe {i : Instr} {s t : State} (hn : strobeOf i s = none)
    (hr : ∀ m, i ≠ .powerOnReset m ∧ i ≠ .pinReset m) (h : exec i s = .next t) : t.wtb.w = s.wtb.w := by
  cases hp : sendPort i with
  | some p =>
    rcases exec_send_cases hp s with he | ⟨x, _, he⟩ <;> rw [he] at h <;> cases h
    · rfl
    · exact send_w p x s
  | none =>
  rw [exec.eq_def] at h
  cases i with
  | prepare | defer | commit | abort | editResult | report | step => cases hp
  | powerOnReset m => exact absurd rfl (hr m).1
  | pinReset m => exact absurd rfl (hr m).2
  | referenceEdge ticks o =>
    rw [← strobeOf_atMoment _ o.moment] at hn
    exact event_w h (by simp [referenceEdge_stays hn])
  | freeRunningStrobe o =>
    rw [← strobeOf_atMoment _ o.moment] at hn
    refine event_w h ?_
    split
    · next hs =>
      cases hst : (s.atMoment o.moment).wtb.state <;> simp [strobeOf, hst, TimebaseState.runsFree] at hn hs
    · rfl
  | lateLimitStrobe o =>
    rw [← strobeOf_atMoment _ o.moment] at hn
    exact event_w h (by rw [if_neg fun hs => by simp [strobeOf, hs] at hn])
  | relockFrameLimit o =>
    rw [← strobeOf_atMoment _ o.moment] at hn
    exact event_w h (by rw [if_neg fun hs => by simp [strobeOf, hs] at hn])
  | loadStart m => exact event_w h (by split <;> rfl)
  | loadEnd rxd m =>
    refine event_w h ?_
    split
    · exact loaded_w _ _
    · rfl
  | intervalTooLong m => exact event_w h (intervalTooLong_w _)
  | framePulseEnd | messageEnd | stopBitEnd | returnToMark | erase | program | conversionEnd | wrap =>
    exact event_w h rfl
  | receivedCharacter p ch m => exact event_w h (by simp)
  | editArrival | ready | unready | query | lineBreak => exact event_w h (by split <;> simp)
  | ctsAsserted p level m => exact event_w h (by simp)
  | cuePut m => exact event_w h (complete_w (fun p m u => by rw [cuePutApply_wtb]) _)
  | cueDrop m => exact event_w h (complete_w (fun p m u => by rw [cueDropApply_wtb]) _)
  | zoneSet m => exact event_w h (complete_w (fun p m u => by rw [zoneSetApply_wtb]) _)
  | wallSet m => exact event_w h (complete_w wallSetApply_w _)
  | phaseSet m => exact event_w h (complete_w (fun p m u => by rw [phaseSetApply_wtb]) _)
  | permit m => exact event_w h (complete_w (fun p m u => by rw [permitApply_wtb]) _)
  | lock m => exact event_w h (complete_w (apply := lockApply) (fun _ _ _ => rfl) _)
  | save m =>
    refine event_w h ?_
    split
    · simp
    · exact complete_w (fun _ _ _ => rfl) _
  | check found m =>
    refine event_w h ?_
    repeat' split
    · rfl
    · simp
    · rfl
  | echoEdge p ticks m =>
    refine event_w h ?_
    dsimp only
    split
    · rfl
    · simp

/-- Settles O10: a strobe counts W on, and what ends no frame keeps it, send commands and completions of edits among them. -/
theorem wChangesOnlyAtStrobes : Obligations.WChangesOnlyAtStrobes := by
  intro i s t h hr
  cases ho : strobeOf i s with
  | none => simpa using exec_w_of_no_strobe ho hr h
  | some o =>
    obtain ⟨u, hu, hw, -⟩ := exec_of_strobeOf ho
    rw [h] at hu
    cases hu
    simp [hw]

/-! ### WALL_SET -/

/-- A WALL_SET is refused for a source, a prescale code or a sweep count above its range (R84). -/
theorem wallSet_none {m : Message} (h : 1 < m.num 3 ∨ 2 < m.num 4 ∨ 8 < m.num 7) : Message.wallSet m = none := by
  unfold Message.wallSet
  split
  · rfl
  · next source hs =>
    have h3 : m.num 3 ≤ 1 := by
      unfold sourceOf at hs
      split at hs <;> simp_all
    split
    · exact if_neg (by omega)
    · rfl

theorem sourceOf_code {n : Nat} (h : n ≤ 1) : ∃ source : Source, sourceOf n = some source ∧ source.code = n := by
  obtain rfl | rfl : n = 0 ∨ n = 1 := by omega
  · exact ⟨.internal, rfl, rfl⟩
  · exact ⟨.reference, rfl, rfl⟩

theorem clampNat_eq {lo hi : Nat} (h : lo ≤ hi) (x : Nat) : clampNat lo hi x = max lo (min hi x) := by
  unfold clampNat
  split
  · omega
  · split <;> omega

/-- The wall settings of a WALL_SET without a refused field, field by field (R42, R84). -/
theorem wallSet_some {m : Message} (hs : m.num 3 ≤ 1) (hp : m.num 4 ≤ 2) (hk : m.num 7 ≤ 8) :
    ∃ set, Message.wallSet m = some set ∧ set.timebase.source.code = m.num 3 ∧ set.timebase.prescale.val = m.num 4
      ∧ set.timebase.n = max (m.num2 5) 1000 ∧ set.common.sweepCount = m.num 7
      ∧ set.common.sweepDivisor = max 1 (min 16 (m.num 8)) ∧ set.common.filterShift = min (m.num 9) 7
      ∧ set.common.pwmPeriod = max 100 (min 4095 (m.num2 10)) := by
  obtain ⟨source, hsource, hcode⟩ := sourceOf_code hs
  rw [Message.wallSet, hsource]
  simp only [dif_pos (Nat.lt_succ_of_le hp), if_pos hk]
  exact ⟨_, rfl, hcode, rfl, rfl, rfl, clampNat_eq (by omega) _, rfl, clampNat_eq (by omega) _⟩

theorem wallSetOutcome_protected {p : Port} {m : Message} {s : State} (h : s.eu.permits[p].rights.wall = false) :
    wallSetOutcome p m s = .isProtected :=
  if_pos (by rw [h]; rfl)

theorem wallSetOutcome_badField {p : Port} {m : Message} {s : State} (h : s.eu.permits[p].rights.wall = true)
    (hm : Message.wallSet m = none) : wallSetOutcome p m s = .badField := by
  rw [wallSetOutcome, if_neg (by rw [h]; decide), if_pos (by rw [hm]; rfl)]

theorem wallSetOutcome_accepted {p : Port} {m : Message} {s : State} {set : WallSet}
    (h : s.eu.permits[p].rights.wall = true) (hm : Message.wallSet m = some set) : wallSetOutcome p m s = .accepted := by
  rw [wallSetOutcome, if_neg (by rw [h]; decide), if_neg (by simp [hm])]

/-- The timebase leaves UNSET in FREE or SEEKING, by the source, with every count at 0 (R8). -/
theorem wtbStart_eq (set : WallSet) (t : Wtb) :
    t.start set = { t with
      state := if set.timebase.source = .internal then .free else .seeking
      timebase := some set.timebase, common := set.common
      c := 0, prescaleCount := 0, postscaler := 0, missRun := 0, relockRun := 0, interval := none } := by
  unfold Wtb.start
  cases set.timebase.source <;> rfl

/-- Settles O35: the two checks, and an accepted set by whether the timebase is UNSET. -/
theorem wallSetStores : Obligations.WallSetStores := by
  intro s p x m hn hw ha hk
  have he : exec (.wallSet m) s = .next (s.complete .wallSet wallSetOutcome wallSetApply) := by
    simp [exec, execWallSet, event_noStart hn]
  refine ⟨_, he, ?_⟩
  rw [complete_active hw ha hk]
  refine ⟨fun hright => ?_, fun hright => ⟨fun hbad => ?_, fun h3 h4 h7 => ?_⟩⟩
  · rw [wallSetOutcome_protected hright, if_neg (by decide)]
  · rw [wallSetOutcome_badField hright (wallSet_none hbad), if_neg (by decide)]
  · obtain ⟨set, hset, hsource, hprescale, hn, hcount, hdivisor, hshift, hperiod⟩ := wallSet_some h3 h4 h7
    rw [wallSetOutcome_accepted hright hset, if_pos rfl, wallSetApply, hset]
    refine ⟨set, hsource, hprescale, hn, hcount, hdivisor, hshift, hperiod, fun hst => ?_, fun hst => ?_⟩
    · simp only [State.acceptWall, if_neg hst, Wtb.accept]
    · simp only [State.acceptWall, if_pos hst, Wtb.accept, wtbStart_eq, Ambient.handover, Dimmer.handover]

/-! ### The empty queue -/

@[simp] theorem atLimit_w (t : Wtb) : t.atLimit.w = t.w := by
  unfold Wtb.atLimit
  repeat' split
  · rfl
  · rfl
  · rfl
  · rfl
  · rfl
  · exact lateLimitMiss_w t

theorem frameDue_iff (t : Wtb) : t.frameDue = true ↔ t.state ≠ .unset ∧ t.limit ≤ t.c := by
  simp [Wtb.frameDue]

/-- One base period at a timebase that runs (R1, R3, R10): the prescale counter counts, or the frame timer takes a tick. -/
theorem wtbBasePeriod_runs {t : Wtb} (h : t.state ≠ .unset) :
    t.basePeriod = if t.prescaleCount + 1 < t.division then { t with prescaleCount := t.prescaleCount + 1 }
      else { t.passTicks 1 with prescaleCount := 0 } :=
  if_neg h

theorem wtbBasePeriod_unset {t : Wtb} (h : t.state = .unset) : t.basePeriod = t :=
  if_pos h

/-- A wrap of a running PWM counter (R161, R162). -/
theorem dimmerWrap_runs {d : Dimmer} (h : d.running = true) :
    d.wrap = { d with
      zones := mapAt (fun _ z => { z with active := z.buffer }) d.zones
      counterPeriod := d.p, counter := 0, divider := 0 } :=
  if_pos h

/-- One base period at a running PWM counter (R161): it counts every eighth, and the count after the last is a wrap. -/
theorem dimmerBasePeriod_runs {d : Dimmer} (h : d.running = true) :
    d.basePeriod = if d.divider + 1 < 8 then { d with divider := d.divider + 1 }
      else if d.counter + 1 < d.counterPeriod then { d with divider := 0, counter := d.counter + 1 } else d.wrap :=
  if_pos h

theorem dimmerBasePeriod_stopped {d : Dimmer} (h : d.running = false) : d.basePeriod = d :=
  if_neg (by simp [h])

/-- Settles O3: the end of a frame that has reached its limit, and else one base period at timebase and PWM counter. -/
theorem emptyQueuePassesTime : Obligations.EmptyQueuePassesTime := by
  intro s hq hset
  have hstep : step s = .next s.elapse := by simp [step, hq]
  refine ⟨_, hstep, ?_⟩
  rcases elapse_cases s with ⟨hdue, he⟩ | ⟨hdue, he⟩ <;> rw [he]
  · rw [frameDue_iff] at hdue
    rw [atMoment_noStart fun _ => hset]
    refine ⟨hq, fun _ _ => ⟨?_, ?_, rfl, rfl⟩, fun h => ?_⟩
    · simp [State.endFrame]
    · simp [State.endFrame]
    · exact absurd h (not_or.2 ⟨hdue.1, Nat.not_lt.2 hdue.2⟩)
  · have hdue' : s.wtb.state ≠ .unset → s.wtb.c < s.wtb.limit := fun h =>
      Nat.not_le.1 fun hl => by simp [(frameDue_iff s.wtb).2 ⟨h, hl⟩] at hdue
    rw [startDue_settled hset, State.basePeriod]
    refine ⟨hq, fun h hl => absurd hl (Nat.not_le.2 (hdue' h)), fun _ => ⟨rfl, wtbBasePeriod_unset, fun h => ?_,
      fun hrun => ?_, fun hrun => ?_⟩⟩
    · dsimp only
      rw [wtbBasePeriod_runs h]
      split
      · rfl
      · refine ⟨?_, fun hi => passTicks_closed 1 hi, fun k hi => ?_⟩
        · conv_lhs => rw [passTicks_frame, passTicks_c _ _ h]
        · split
          · next hk => exact passTicks_within h hi hk
          · next hk => exact passTicks_beyond h hi hk
    · exact dimmerBasePeriod_stopped hrun
    · dsimp only
      rw [dimmerBasePeriod_runs hrun, dimmerWrap_runs hrun]
      by_cases hd : s.dimmer.divider + 1 < 8
      · simp only [if_pos hd]
      by_cases hc : s.dimmer.counter + 1 < s.dimmer.counterPeriod
      · simp only [if_neg hd, if_pos hc]
      · simp only [if_neg hd, if_neg hc, true_and]
        exact fun z => mapAt_get _ _ z

end Sys2Proof.Machine
end

section
/-! PROOFS. The laws of the timebase (R2, R3, R8, R10, R11, R14, R17), operation by operation: passing ticks, edges, the ends of
a frame, the strobe and the wall settings keep them. -/

namespace Sys2Proof.Machine

/-! ### Fields no law reads -/

theorem Wtb.Lawful.setGlitch {t : Wtb} (h : t.Lawful) (g : Bool) : { t with glitch := g }.Lawful :=
  { h with }

theorem Wtb.Lawful.frameLow {t : Wtb} (h : t.Lawful) : { t with frameHigh := false }.Lawful :=
  { h with
    unset_still := fun hs => by
      obtain ⟨hw, hc, hp, hset, hps, -⟩ := h.unset_still hs
      exact ⟨hw, hc, hp, hset, hps, rfl⟩ }

theorem prescaleDivision_pos (code : Fin 3) : 0 < prescaleDivision code := by
  revert code; decide

theorem division_pos (t : Wtb) : 0 < t.division := by
  unfold Wtb.division
  cases t.timebase with
  | none => exact Nat.one_pos
  | some b => exact prescaleDivision_pos b.prescale

theorem WallCommon.default_lawful : WallCommon.default.Lawful := by
  constructor <;> decide

theorem Wtb.reset_lawful : Wtb.reset.Lawful where
  common := WallCommon.default_lawful
  timebase b hb := by cases hb
  pending set hset := by cases hset
  unset_iff := by decide
  unset_still _ := by decide
  free_source h := by cases h
  follow_source h := absurd h (by decide)
  count_le := by decide
  interval_le i hi := by cases hi
  measures_only _ := by decide
  relockRun_le := by decide
  missRun_le := by decide
  missRun_locked _ := by decide
  postscaler_lt := by decide
  prescale_lt := by decide

/-! ### Ticks -/

/-- The interval count and the relock run stay in their ranges as ticks pass (R10). -/
theorem passTicks_counts {t : Wtb} (h : t.Lawful) (hs : t.state ≠ .unset) (k : Nat) :
    (∀ i ∈ (t.passTicks k).interval, i ≤ t.n + t.n / 8) ∧ (t.passTicks k).relockRun ≤ 3
      ∧ (t.state.measures = false → (t.passTicks k).interval = none ∧ (t.passTicks k).relockRun = 0) := by
  cases hi : t.interval with
  | none =>
    obtain ⟨hint, hrun⟩ := passTicks_closed k hi
    rw [hint, hrun]
    exact ⟨fun i hi => (by cases hi), h.relockRun_le, fun hm => ⟨rfl, (h.measures_only hm).2⟩⟩
  | some j =>
    have hm : t.state.measures ≠ false := fun hm => by simp [(h.measures_only hm).1] at hi
    by_cases hk : j + k ≤ t.n + t.n / 8
    · obtain ⟨hint, hrun⟩ := passTicks_within hs hi hk
      rw [hint, hrun]
      exact ⟨fun i hi => (by cases hi; exact hk), h.relockRun_le, fun hm' => absurd hm' hm⟩
    · obtain ⟨hint, hrun⟩ := passTicks_beyond hs hi hk
      rw [hint, hrun]
      exact ⟨fun i hi => (by cases hi), Nat.zero_le 3, fun hm' => absurd hm' hm⟩

theorem passTicks_prescaleCount_le (k : Nat) (t : Wtb) : (t.passTicks k).prescaleCount ≤ t.prescaleCount := by
  unfold Wtb.passTicks
  split
  · exact Nat.le_refl _
  · dsimp only; split <;> omega

/-- Ticks that fit in the frame in progress keep the law. -/
theorem Wtb.Lawful.passTicks {t : Wtb} (h : t.Lawful) {k : Nat} (hk : t.state ≠ .unset → t.c + k ≤ t.limit) :
    (t.passTicks k).Lawful := by
  by_cases hs : t.state = .unset
  · rw [passTicks_unset k t hs]; exact h
  obtain ⟨hint, hrun, hmeas⟩ := passTicks_counts h hs k
  have hc : (t.passTicks k).c ≤ t.limit := by rw [passTicks_c k t hs]; exact hk hs
  have hp := Nat.lt_of_le_of_lt (passTicks_prescaleCount_le k t) h.prescale_lt
  rw [passTicks_frame]
  exact { h with
    unset_still := fun hs' => absurd hs' hs
    count_le := hc
    interval_le := hint
    measures_only := hmeas
    relockRun_le := hrun
    prescale_lt := hp }

theorem Wtb.Lawful.passUpTo {t : Wtb} (h : t.Lawful) (k : Nat) : (t.passUpTo k).Lawful :=
  h.passTicks fun _ => by have := h.count_le; omega

theorem Wtb.Lawful.passToLimit {t : Wtb} (h : t.Lawful) : t.passToLimit.Lawful :=
  h.passTicks fun _ => by have := h.count_le; omega

/-- A base period before the end of the frame keeps the law (R1). -/
theorem Wtb.Lawful.basePeriod {t : Wtb} (h : t.Lawful) (hdue : t.frameDue = false) : t.basePeriod.Lawful := by
  by_cases hs : t.state = .unset
  · rw [wtbBasePeriod_unset hs]; exact h
  have hc : t.c < t.limit := Nat.not_le.1 fun hl => by simp [(frameDue_iff t).2 ⟨hs, hl⟩] at hdue
  rw [wtbBasePeriod_runs hs]
  split
  · next hp => exact { h with unset_still := fun hs' => absurd hs' hs, prescale_lt := hp }
  · have h' : (t.passTicks 1).Lawful := h.passTicks fun _ => hc
    exact { h' with
      unset_still := fun hs' => absurd (by simpa using hs') hs
      prescale_lt := division_pos _ }

/-! ### Reference edges -/

/-- A measuring edge keeps the law: the relock frame of LOCKED has room for the count of the frame in progress (R11, R12). -/
theorem Wtb.Lawful.measureEdge {t : Wtb} (h : t.Lawful) (hs : t.state = .seeking ∨ t.state = .holdover) :
    t.measureEdge.Lawful := by
  have hset : t.state ≠ .unset := by rcases hs with h | h <;> simp [h]
  have hm : t.state.measures = true := by rcases hs with h | h <;> simp [h, TimebaseState.measures]
  have reopen : ∀ r, r ≤ 3 → { t with relockRun := r, interval := some 0 }.Lawful := fun r hr =>
    { h with
      interval_le := fun i hi => by cases hi; exact Nat.zero_le _
      measures_only := fun hm' => by simp [hm] at hm'
      relockRun_le := hr }
  rcases measureEdge_cases t with ⟨_, he⟩ | ⟨_, _, ⟨_, he⟩ | ⟨_, _, hr, he⟩ | ⟨_, _, _, he⟩⟩ <;> rw [he]
  · exact reopen _ h.relockRun_le
  · exact reopen 0 (Nat.zero_le 3)
  · exact reopen _ (by omega)
  · have hc : t.c ≤ t.n := by
      have hl : t.limit = t.n := by rcases hs with h | h <;> simp [Wtb.limit, h]
      exact hl ▸ h.count_le
    exact { h with
      unset_iff := ⟨fun hu => (by cases hu), fun hb => absurd (h.unset_iff.2 hb) hset⟩
      unset_still := fun hu => by cases hu
      free_source := fun hf => by cases hf
      follow_source := fun _ => h.follow_source (by rcases hs with h | h <;> simp [h])
      count_le := Nat.le_trans hc (Nat.le_trans (Nat.le_mul_of_pos_left t.n Nat.two_pos) (Nat.le_add_right _ _))
      interval_le := fun i hi => by cases hi
      measures_only := fun _ => ⟨rfl, rfl⟩
      relockRun_le := Nat.zero_le 3
      missRun_le := Nat.zero_le 2
      missRun_locked := fun hl => absurd rfl hl }

theorem Wtb.Lawful.clearMisses {t : Wtb} (h : t.Lawful) : { t with missRun := 0 }.Lawful :=
  { h with
    missRun_le := Nat.zero_le 2
    missRun_locked := fun hs => ⟨rfl, (h.missRun_locked hs).2⟩ }

theorem Wtb.Lawful.referenceEdge {t : Wtb} (h : t.Lawful) : t.referenceEdge.1.Lawful := by
  cases hs : t.state with
  | unset => rw [referenceEdge_ignored (.inl hs)]; exact h
  | free => rw [referenceEdge_ignored (.inr hs)]; exact h
  | seeking => rw [referenceEdge_measures (.inl hs)]; exact h.measureEdge (.inl hs)
  | holdover => rw [referenceEdge_measures (.inr hs)]; exact h.measureEdge (.inr hs)
  | locked =>
    rcases Nat.lt_or_ge t.c t.half with hc | hc
    · rw [referenceEdge_locked_early hs hc]; exact h.setGlitch _
    · rw [referenceEdge_locked_late hs hc]; exact h.clearMisses

/-- An edge leaves a timebase in UNSET, or out of it, as it was. -/
theorem referenceEdge_unset {t : Wtb} : t.referenceEdge.1.state = .unset ↔ t.state = .unset := by
  cases hs : t.state with
  | unset => rw [referenceEdge_ignored (.inl hs)]; simp [hs]
  | free => rw [referenceEdge_ignored (.inr hs)]; simp [hs]
  | seeking | holdover =>
    rw [referenceEdge_measures (by simp [hs])]
    rcases measureEdge_cases t with ⟨_, he⟩ | ⟨_, _, ⟨_, he⟩ | ⟨_, _, _, he⟩ | ⟨_, _, _, he⟩⟩ <;> simp [he, hs]
  | locked =>
    rcases Nat.lt_or_ge t.c t.half with hc | hc
    · rw [referenceEdge_locked_early hs hc]; simp [hs]
    · rw [referenceEdge_locked_late hs hc]; simp [hs]

theorem Wtb.Lawful.intervalTooLong {t : Wtb} (h : t.Lawful) : t.intervalTooLong.Lawful := by
  unfold Wtb.intervalTooLong
  split
  · exact h
  · next i hi =>
    split
    · next hm =>
      have hc := h.count_le
      have h' : (t.passTicks (t.lateLimit + 1 - i)).Lawful := h.passTicks fun _ => by omega
      exact { h' with
        interval_le := fun i hi => by cases hi
        measures_only := fun _ => ⟨rfl, rfl⟩
        relockRun_le := Nat.zero_le 3 }
    · exact h

theorem intervalTooLong_state (t : Wtb) : t.intervalTooLong.state = t.state := by
  unfold Wtb.intervalTooLong
  repeat' split
  · rfl
  · simp
  · rfl

/-! ### The end of a frame -/

/-- The timebase with the frame timer cleared and no relock frame, as a strobe makes it before all else (R4). -/
def Wtb.frameCleared (t : Wtb) : Wtb :=
  { t with c := 0, relockFrame := false }

/-- A strobe reads neither the count of the frame that it ends nor whether that was a relock frame. -/
theorem frameCleared_strobe (t : Wtb) : t.frameCleared.strobe = t.strobe := by
  unfold Wtb.strobe Wtb.frameCleared
  cases t.pending <;> rfl

theorem Wtb.Lawful.frameCleared {t : Wtb} (h : t.Lawful) : t.frameCleared.Lawful :=
  { h with
    unset_still := fun hs => by
      obtain ⟨hw, -, hrest⟩ := h.unset_still hs
      exact ⟨hw, rfl, hrest⟩
    count_le := Nat.zero_le _
    missRun_locked := fun hs => ⟨(h.missRun_locked hs).1, rfl⟩ }

/-- Entry into HOLDOVER from LOCKED at the end of a frame (R12, R14). -/
theorem Wtb.Lawful.toHoldover {t : Wtb} (h : t.Lawful) (hs : t.state = .locked) : t.toHoldover.frameCleared.Lawful :=
  { h with
    unset_iff := ⟨fun hu => (by cases hu), fun hb => by rw [h.unset_iff.2 hb] at hs; cases hs⟩
    unset_still := fun hu => by cases hu
    free_source := fun hf => by cases hf
    follow_source := fun _ => h.follow_source (.inr (.inr hs))
    count_le := Nat.zero_le _
    interval_le := fun i hi => by cases hi
    measures_only := fun hm => by cases hm
    relockRun_le := Nat.zero_le 3
    missRun_le := Nat.zero_le 2
    missRun_locked := fun _ => ⟨rfl, rfl⟩ }

theorem Wtb.Lawful.lateLimitMiss {t : Wtb} (h : t.Lawful) (hs : t.state = .locked) : t.lateLimitMiss.frameCleared.Lawful := by
  rw [lateLimitMiss_eq]
  split
  · next hm =>
    have h' := h.frameCleared
    exact { h' with
      missRun_le := by show t.missRun + 1 ≤ 2; omega
      missRun_locked := fun hl => absurd hs hl }
  · exact h.toHoldover hs

theorem Wtb.Lawful.atLimit {t : Wtb} (h : t.Lawful) : t.atLimit.frameCleared.Lawful := by
  unfold Wtb.atLimit
  cases hs : t.state with
  | unset | free | seeking | holdover => exact h.frameCleared
  | locked =>
    dsimp only
    split
    · exact h.toHoldover hs
    · exact h.lateLimitMiss hs

theorem lateLimitMiss_unset {t : Wtb} : t.lateLimitMiss.state = .unset → t.state = .unset := by
  rw [lateLimitMiss_eq]
  split
  · exact id
  · intro h; cases h

theorem atLimit_unset {t : Wtb} : t.atLimit.state = .unset → t.state = .unset := by
  unfold Wtb.atLimit
  split
  · exact id
  · exact id
  · exact id
  · exact id
  · split
    · intro h; cases h
    · exact lateLimitMiss_unset

/-- What a command that ends the frame leaves of the timebase keeps the law, the frame timer cleared. -/
theorem Wtb.Lawful.endedBy {i : Instr} {s : State} {o : StrobeOrder} (h : s.wtb.Lawful) (ho : strobeOf i s = some o) :
    (s.wtb.endedBy i).frameCleared.Lawful ∧ (s.wtb.endedBy i).state ≠ .unset := by
  cases i <;> simp [strobeOf] at ho
  case freeRunningStrobe =>
    refine ⟨h.passToLimit.frameCleared, ?_⟩
    obtain ⟨hs | hs | hs, -⟩ := ho <;> simp [Wtb.endedBy, Wtb.passToLimit, hs]
  case lateLimitStrobe =>
    obtain ⟨⟨hs, -⟩, -⟩ := ho
    refine ⟨h.passToLimit.lateLimitMiss (by simpa [Wtb.passToLimit] using hs), fun hu => ?_⟩
    have := lateLimitMiss_unset hu
    simp [Wtb.passToLimit, hs] at this
  case relockFrameLimit =>
    obtain ⟨⟨hs, -⟩, -⟩ := ho
    exact ⟨h.passToLimit.toHoldover (by simpa [Wtb.passToLimit] using hs), by simp [Wtb.endedBy, Wtb.toHoldover]⟩
  case referenceEdge ticks _ =>
    obtain ⟨⟨hs, -⟩, -⟩ := ho
    exact ⟨(h.passUpTo ticks).clearMisses.frameCleared, by simp [Wtb.endedBy, Wtb.passUpTo, hs]⟩

/-! ### The strobe and the wall settings -/

/-- An applied pending set leaves every state but UNSET (R5). -/
theorem applied_unset {source : Source} {st : TimebaseState} : st.applied source = .unset ↔ st = .unset := by
  cases st <;> cases source <;> simp [TimebaseState.applied]

/-- The source fits the state after a pending set is applied (R5). -/
theorem applied_source {source : Source} {st : TimebaseState} (hs : st ≠ .unset) :
    (st.applied source = .free ↔ source = .internal) ∧ (source = .internal ∨ st.applied source ≠ .free) := by
  cases st <;> cases source <;> simp [TimebaseState.applied] at hs ⊢

/-- After a pending set only a timebase that was LOCKED is LOCKED, and one that is FREE has no run (R5). -/
theorem applied_missRun {source : Source} {st : TimebaseState} (hs : st.applied source ≠ .locked) :
    st.applied source = .free ∨ st ≠ .locked := by
  cases st <;> cases source <;> simp [TimebaseState.applied] at hs ⊢

/-- The strobe of a running timebase keeps the law (R4, R5, R17). -/
theorem Wtb.Lawful.strobe {t : Wtb} (h : t.Lawful) (hs : t.state ≠ .unset) : t.strobe.Lawful := by
  have h0 := h.frameCleared
  rw [← frameCleared_strobe]
  have hs0 : t.frameCleared.state ≠ .unset := hs
  have hr0 : t.frameCleared.c = 0 ∧ t.frameCleared.relockFrame = false := ⟨rfl, rfl⟩
  generalize t.frameCleared = u at h0 hs0 hr0
  cases hp : u.pending with
  | none =>
    rw [wtbStrobe_plain u hp]
    exact { h0 with
      unset_still := fun hu => absurd hu hs0
      count_le := Nat.zero_le _
      missRun_locked := fun hl => ⟨(h0.missRun_locked hl).1, rfl⟩
      postscaler_lt := by
        have := h0.postscaler_lt
        dsimp only
        split <;> omega }
  | some set =>
    rw [wtbStrobe_apply u set hp]
    obtain ⟨htb, hcommon⟩ := h0.pending set hp
    exact
      { common := hcommon
        timebase := fun b hb => by cases hb; exact htb
        pending := fun set hset => by cases hset
        unset_iff := ⟨fun hu => absurd (applied_unset.1 hu) hs0, fun hb => by cases hb⟩
        unset_still := fun hu => absurd (applied_unset.1 hu) hs0
        free_source := fun hf b hb => by cases hb; exact (applied_source hs0).1.1 hf
        follow_source := fun hf b hb => by
          cases hb
          cases hsrc : set.timebase.source with
          | reference => rfl
          | internal =>
            have hfree := (applied_source hs0).1.2 hsrc
            simp [hfree] at hf
        count_le := Nat.zero_le _
        interval_le := fun i hi => by cases hi
        measures_only := fun _ => ⟨rfl, rfl⟩
        relockRun_le := Nat.zero_le 3
        missRun_le := by
          dsimp only
          split
          · exact Nat.zero_le 2
          · exact h0.missRun_le
        missRun_locked := fun hl => by
          refine ⟨?_, rfl⟩
          rcases applied_missRun hl with hf | hl'
          · exact if_pos hf
          · dsimp only; rw [(h0.missRun_locked hl').1, ite_self]
        postscaler_lt := hcommon.sweepDivisor_range.1
        prescale_lt := prescaleDivision_pos _ }

theorem wtbStrobe_unset {t : Wtb} : t.strobe.state = .unset ↔ t.state = .unset := by
  cases hp : t.pending with
  | none => rw [wtbStrobe_plain t hp]
  | some set => rw [wtbStrobe_apply t set hp]; exact applied_unset

/-- An UNSET timebase that starts with legal settings keeps the law (R8). -/
theorem Wtb.Lawful.start {t : Wtb} (h : t.Lawful) (hs : t.state = .unset) {set : WallSet} (htb : set.timebase.Lawful)
    (hcommon : set.common.Lawful) : (t.start set).Lawful := by
  rw [wtbStart_eq]
  have hne : (if set.timebase.source = .internal then TimebaseState.free else .seeking) ≠ .unset := by split <;> simp
  have hnl : (if set.timebase.source = .internal then TimebaseState.free else .seeking) ≠ .locked := by split <;> simp
  have hl := h.missRun_locked (by simp [hs])
  exact
    { common := hcommon
      timebase := fun b hb => by cases hb; exact htb
      pending := h.pending
      unset_iff := ⟨fun hu => absurd hu hne, fun hb => by cases hb⟩
      unset_still := fun hu => absurd hu hne
      free_source := fun hf b hb => by
        cases hb
        by_contra hsrc
        simp [hsrc] at hf
      follow_source := fun hf b hb => by
        cases hb
        cases hsrc : set.timebase.source with
        | reference => rfl
        | internal => simp [hsrc] at hf
      count_le := Nat.zero_le _
      interval_le := fun i hi => by cases hi
      measures_only := fun _ => ⟨rfl, rfl⟩
      relockRun_le := Nat.zero_le 3
      missRun_le := Nat.zero_le 2
      missRun_locked := fun _ => ⟨rfl, hl.2⟩
      postscaler_lt := hcommon.sweepDivisor_range.1
      prescale_lt := prescaleDivision_pos _ }

/-- A timebase started from UNSET runs. -/
theorem start_ne_unset (set : WallSet) (t : Wtb) : (t.start set).state ≠ .unset := by
  rw [wtbStart_eq]
  dsimp only
  split <;> simp

theorem Wtb.Lawful.accept {t : Wtb} (h : t.Lawful) {set : WallSet} (htb : set.timebase.Lawful) (hcommon : set.common.Lawful) :
    (t.accept set).Lawful := by
  unfold Wtb.accept
  split
  · next hs => exact h.start hs htb hcommon
  · next hs =>
    exact { h with
      pending := fun x hx => by cases hx; exact ⟨htb, hcommon⟩
      unset_still := fun hu => absurd hu hs }

theorem accept_ne_unset (set : WallSet) (t : Wtb) : (t.accept set).state ≠ .unset := by
  unfold Wtb.accept
  split
  · exact start_ne_unset set t
  · next hs => exact hs

/-- The settings of a load reach a timebase in UNSET (R8, R170). -/
theorem Wtb.Lawful.loaded {t : Wtb} (h : t.Lawful) (hs : t.state = .unset) {set : Settings} (hset : set.Lawful) :
    (t.loaded set).Lawful := by
  unfold Wtb.loaded
  split
  · obtain ⟨-, -, -, -, hps, -⟩ := h.unset_still hs
    exact { h with
      common := hset.common
      postscaler_lt := by show t.postscaler < _; rw [hps]; exact hset.common.sweepDivisor_range.1 }
  · next b hb => exact h.start hs (hset.timebase b hb) hset.common

theorem num_le (m : Message) (pos : Nat) : m.num pos ≤ 255 :=
  Nat.le_of_lt_succ (m.char pos).isLt

theorem num2_le (m : Message) (pos : Nat) : m.num2 pos ≤ 65535 := by
  have h1 := num_le m pos
  have h2 := num_le m (pos + 1)
  simp only [Message.num2]
  omega

/-- The settings of an accepted WALL_SET lie in their ranges (R42, R84). -/
theorem wallSet_lawful {m : Message} {set : WallSet} (h : Message.wallSet m = some set) :
    set.timebase.Lawful ∧ set.common.Lawful := by
  have hgood : ¬ (1 < m.num 3 ∨ 2 < m.num 4 ∨ 8 < m.num 7) := fun hbad => by simp [wallSet_none hbad] at h
  simp only [not_or, Nat.not_lt] at hgood
  obtain ⟨h3, h4, h7⟩ := hgood
  obtain ⟨set', hset', -, -, hn, hcount, hdivisor, hshift, hperiod⟩ := wallSet_some h3 h4 h7
  obtain rfl : set' = set := Option.some.inj (hset'.symm.trans h)
  have h5 := num2_le m 5
  exact ⟨⟨by omega, by omega⟩, ⟨by omega, by omega, by omega, by omega⟩⟩

end Sys2Proof.Machine
end

section
/-! PROOFS. The laws of the phase watch (R130 to R137), the ambient sweep (R140 to R148), the zone dimmer (R150 to R162) and the
settings page (R165 to R169), operation by operation. -/

namespace Sys2Proof.Machine

/-! ### Phase watch -/

theorem capturing_iff (mode : EchoMode) : mode.capturing = true ↔ mode ≠ .unused := by
  cases mode <;> simp [EchoMode.capturing]

theorem EchoWatch.reset_lawful : EchoWatch.reset.Lawful := by
  constructor <;> decide

/-- A status other than UNUSED with both runs cleared keeps the law (R133 to R135). -/
theorem EchoWatch.Lawful.become {e : EchoWatch} (h : e.Lawful) (he : e.status ≠ .unused) {status : StepStatus}
    (hs : status ≠ .unused) : (e.become status).Lawful :=
  { h with
    unused_iff := ⟨fun hu => absurd hu hs, fun hm => absurd (h.unused_iff.2 hm) he⟩
    within_le := Nat.zero_le 2
    beyond_le := Nat.zero_le 2
    inStep_runs := fun _ => rfl
    outOfStep_runs := fun _ => rfl
    unused_still := fun hu => absurd hu hs }

/-- The judgement of a capture keeps the law (R133, R135). -/
theorem EchoWatch.Lawful.judge {e : EchoWatch} (h : e.Lawful) : e.judge.Lawful := by
  have other : ∀ {st st' : StepStatus} {P : Prop}, e.status = st → st ≠ st' → e.status = st' → P :=
    fun h1 h2 h3 => absurd (h1.symm.trans h3) h2
  unfold EchoWatch.judge
  split
  · next hs =>
    split
    · exact { h with
        beyond_le := Nat.zero_le 2, outOfStep_runs := fun _ => rfl, unused_still := other hs (by decide) }
    · split
      · next hb => exact { h with
          within_le := Nat.zero_le 2
          beyond_le := Nat.le_of_lt_succ hb
          inStep_runs := fun _ => rfl
          outOfStep_runs := other hs (by decide)
          unused_still := other hs (by decide) }
      · exact h.become (other hs (by decide)) (by decide)
  · next hs =>
    split
    · exact { h with
        within_le := Nat.zero_le 2, inStep_runs := fun _ => rfl, unused_still := other hs (by decide) }
    · split
      · next hw => exact { h with
          within_le := Nat.le_of_lt_succ hw
          beyond_le := Nat.zero_le 2
          inStep_runs := other hs (by decide)
          outOfStep_runs := fun _ => rfl
          unused_still := other hs (by decide) }
      · exact h.become (other hs (by decide)) (by decide)
  · next hs => exact h.become (other hs (by decide)) (by split <;> decide)
  · exact h

/-- The offset of a capture lies on the 16-bit scale (R132). -/
theorem captureOffset_range {n : Nat} (hn : n ≤ 65535) (c : Nat) :
    -32768 ≤ captureOffset c n ∧ captureOffset c n ≤ 32767 := by
  unfold captureOffset maxOffset
  split <;> omega

/-- An edge keeps the law, in whatever count of the frame it comes (R131 to R135). -/
theorem EchoWatch.Lawful.edge {e : EchoWatch} (h : e.Lawful) {n : Nat} (hn : n ≤ 65535) (c : Nat) : (e.edge c n).Lawful := by
  unfold EchoWatch.edge
  split
  · next hm =>
    split
    · next hp => exact { h with prescaler_lt := lt_max_of_lt_right hp }
    · have h' : { e with prescaler := 0, lastOffset := captureOffset c n, frames := 0 }.Lawful :=
        { h with
          prescaler_lt := lt_max_of_lt_left Nat.one_pos
          offset_range := captureOffset_range hn c
          frames_le := Nat.zero_le _
          unused_still := fun hu => ⟨(h.unused_still hu).1, (h.unused_still hu).2.1, rfl⟩ }
      exact h'.judge
  · exact h

/-- A strobe keeps the law (R134). -/
theorem EchoWatch.Lawful.strobe {e : EchoWatch} (h : e.Lawful) : e.strobe.Lawful := by
  unfold EchoWatch.strobe
  split
  · next hm =>
    have hne : e.status ≠ .unused := fun hu => (capturing_iff _).1 hm (h.unused_iff.1 hu)
    have counted : { e with frames := min (e.frames + 1) silentAfter }.Lawful :=
      { h with frames_le := Nat.min_le_right _ _, unused_still := fun hu => absurd hu hne }
    dsimp only
    split
    · split
      · exact counted
      · exact counted.become hne (by decide)
    · split
      · exact counted
      · exact counted.become hne (by decide)
    · exact counted
    · exact counted
  · exact h

/-- The status of a port is UNUSED after a change of mode exactly when the new mode is (R137). -/
theorem statusAfterMode_unused {before after : EchoMode} {status : StepStatus} (h : status = .unused ↔ before = .unused) :
    statusAfterMode before after status = .unused ↔ after = .unused := by
  unfold statusAfterMode
  split
  · next ha =>
    split
    · next hb => rw [h]; simp [(capturing_iff _).1 hb, (capturing_iff _).1 ha]
    · simp [(capturing_iff _).1 ha]
  · next ha => simpa [capturing_iff] using ha

/-- An accepted PHASE_SET keeps the law (R137). -/
theorem EchoWatch.Lawful.set {e : EchoWatch} (h : e.Lawful) {settings : EchoSettings} (ht : settings.tolerance ≤ 65535) :
    (e.set settings).Lawful where
  unused_iff := statusAfterMode_unused h.unused_iff
  tolerance_le := ht
  prescaler_lt := lt_max_of_lt_left Nat.one_pos
  offset_range := h.offset_range
  within_le := Nat.zero_le 2
  beyond_le := Nat.zero_le 2
  frames_le := Nat.zero_le _
  inStep_runs _ := rfl
  outOfStep_runs _ := rfl
  unused_still _ := ⟨rfl, rfl, rfl⟩

/-- A cleared working state meets the law (R138, R139). -/
theorem EchoWatch.fresh_lawful {settings : EchoSettings} (ht : settings.tolerance ≤ 65535) :
    (EchoWatch.fresh settings).Lawful where
  unused_iff := by
    simp only [EchoWatch.fresh]
    split
    · next hm => simp [(capturing_iff _).1 hm]
    · next hm => simpa [capturing_iff] using hm
  tolerance_le := ht
  prescaler_lt := lt_max_of_lt_left Nat.one_pos
  offset_range := (by decide : (-32768 : Int) ≤ 0 ∧ (0 : Int) ≤ 32767)
  within_le := Nat.zero_le 2
  beyond_le := Nat.zero_le 2
  frames_le := Nat.zero_le _
  inStep_runs _ := rfl
  outOfStep_runs _ := rfl
  unused_still _ := ⟨rfl, rfl, rfl⟩

/-! ### Ambient sweep -/

/-- The filter ends between the value it had and the sample on the filtered scale (R147). -/
theorem filterStep_between (shift f a : Nat) : min f (a * 64) ≤ filterStep shift f a ∧ filterStep shift f a ≤ max f (a * 64) := by
  unfold filterStep
  have hpos : (0 : Int) < (2 ^ shift : Nat) := by positivity
  generalize ((2 ^ shift : Nat) : Int) = q at hpos
  generalize hd : ((a * 64 : Nat) : Int) - f = d
  have hstep : 0 ≤ d ∧ 0 ≤ d / q ∧ d / q ≤ d ∨ d < 0 ∧ d ≤ d / q ∧ d / q ≤ 0 := by
    rcases le_or_gt 0 d with h | h
    · exact .inl ⟨h, Int.ediv_nonneg h hpos.le, Int.ediv_le_self _ h⟩
    · refine .inr ⟨h, ?_, Int.ediv_nonpos_of_nonpos_of_neg h.le hpos⟩
      rw [Int.le_ediv_iff_mul_le hpos]
      nlinarith
  generalize d / q = e at hstep
  generalize a * 64 = b at hd
  constructor <;> omega

theorem Sensor.reset_lawful : Sensor.reset.Lawful := by
  constructor <;> decide

theorem isRail_false {a : Nat} (h : isRail a = false) (ha : a ≤ maxSample) : 1 ≤ a ∧ a ≤ 1022 := by
  have h0 : a ≠ 0 := by rintro rfl; exact absurd h (by decide)
  have h1 : a ≠ 1023 := by rintro rfl; exact absurd h (by decide)
  have ha' : a ≤ 1023 := ha
  omega

/-- A sample that is no rail moves F within the range that no rail sample reaches (R145 to R148). -/
theorem filterStep_range {shift f a : Nat} (hf : 64 ≤ f ∧ f ≤ 65408) (ha : 1 ≤ a ∧ a ≤ 1022) :
    64 ≤ filterStep shift f a ∧ filterStep shift f a ≤ 65408 := by
  have := filterStep_between shift f a
  omega

/-- A conversion end keeps the law of its sensor (R144 to R148). -/
theorem Sensor.Lawful.convert {x : Sensor} (h : x.Lawful) {a : Nat} (ha : a ≤ maxSample) (shift : Nat) :
    (x.convert shift a).Lawful := by
  obtain ⟨hlast, hf, hrail, hclear, hgood, hfaulted⟩ := h
  unfold Sensor.convert
  dsimp only
  split
  · next hs =>
    rw [if_pos hs] at hf hrail
    split
    · exact ⟨ha, by rw [if_pos hs]; exact hf, by rw [if_pos hs]; exact Nat.min_le_right _ _, hclear, hgood,
        fun hq => absurd (hs.symm.trans hq) (by decide)⟩
    · next hr =>
      have := isRail_false (by simpa using hr) ha
      exact ⟨ha, by rw [if_neg (by simp)]; dsimp only; omega, Nat.zero_le _, hclear, fun _ => hgood (by simp [hs]), fun _ => rfl⟩
  · next hs =>
    rw [if_neg (by simp [hs])] at hf hrail
    split
    · split
      · next hr => exact ⟨ha, by rw [if_neg (by simp [hs])]; exact hf, by rw [if_neg (by simp [hs])]; exact hr, hclear, hgood,
          fun hq => by simp [hs] at hq⟩
      · exact ⟨ha, by rw [if_neg (by simp)]; exact hf, Nat.zero_le _, Nat.zero_le 7, fun _ => rfl, fun _ => rfl⟩
    · next hr =>
      exact ⟨ha, by rw [if_neg (by simp [hs])]; exact filterStep_range hf (isRail_false (by simpa using hr) ha), Nat.zero_le _,
        hclear, hgood, fun _ => rfl⟩
  · next hs =>
    rw [if_neg (by simp [hs])] at hf hrail
    split
    · exact ⟨ha, by rw [if_neg (by simp [hs])]; exact hf, by rw [if_neg (by simp [hs])]; exact hrail, Nat.zero_le 7,
        fun _ => rfl, hfaulted⟩
    · next hr =>
      split
      · next hc => exact ⟨ha, by rw [if_neg (by simp [hs])]; exact hf, by rw [if_neg (by simp [hs])]; exact hrail, hc,
          fun hq => absurd hs hq, hfaulted⟩
      · exact ⟨ha, by rw [if_neg (by simp)]; exact filterStep_range hf (isRail_false (by simpa using hr) ha), Nat.zero_le _,
          Nat.zero_le 7, fun _ => rfl, fun _ => rfl⟩

theorem Ambient.reset_lawful : Ambient.reset.Lawful where
  sweepCount_le := by decide
  filterShift_le := by decide
  sweeping k i h := by cases h
  sensors i := by
    have h : Ambient.reset.sensors[i] = .reset := by simp [Ambient.reset]
    rw [h]
    exact Sensor.reset_lawful

theorem Ambient.Lawful.setOverrun {a : Ambient} (h : a.Lawful) (b : Bool) : { a with overrun := b }.Lawful :=
  { h with }

theorem Ambient.Lawful.handover {a : Ambient} (h : a.Lawful) {common : WallCommon} (hc : common.Lawful) :
    (a.handover common).Lawful :=
  { h with sweepCount_le := hc.sweepCount_le, filterShift_le := hc.filterShift_le }

theorem Ambient.Lawful.trigger {a : Ambient} (h : a.Lawful) : a.trigger.Lawful := by
  unfold Ambient.trigger
  split
  · split
    · next hk => exact { h with sweeping := fun k i hs => by cases hs; exact ⟨hk, h.sweepCount_le⟩ }
    · exact h
  · exact h.setOverrun true

theorem Ambient.Lawful.strobe {a : Ambient} (h : a.Lawful) {before : Wtb} (hb : before.Lawful) : (a.strobe before).Lawful := by
  unfold Ambient.strobe
  split
  · next set hset => exact h.handover (hb.pending set hset).2
  · split
    · exact h.trigger
    · exact h

theorem Ambient.Lawful.conversionEnd {a : Ambient} (h : a.Lawful) (sample : Nat) : (a.conversionEnd sample).Lawful := by
  unfold Ambient.conversionEnd
  split
  · exact h
  · next k i hs =>
    obtain ⟨-, hk⟩ := h.sweeping k i hs
    exact { h with
      sweeping := fun k' i' hs' => by
        simp only [nextConversion] at hs'
        split at hs'
        · next hn => cases hs'; exact ⟨hn.1, hk⟩
        · cases hs'
      sensors := fun j => by
        simp only [modifyAt_get]
        split
        · exact (h.sensors j).convert (Nat.min_le_right _ _) _
        · exact h.sensors j }

/-! ### Zone dimmer -/

theorem ZoneConfig.default_lawful : ZoneConfig.default.Lawful := by
  constructor <;> decide

theorem clampNat_range {lo hi : Nat} (h : lo ≤ hi) (x : Nat) : lo ≤ clampNat lo hi x ∧ clampNat lo hi x ≤ hi := by
  rw [clampNat_eq h]; omega

/-- A zone whose applied base is the floor of its configuration (R164). -/
theorem Zone.loaded_lawful {config : ZoneConfig} (h : config.Lawful) : (Zone.loaded config).Lawful where
  config := h
  ba_range := ⟨Nat.le_refl _, h.limits.1⟩
  g_le := Nat.le_refl _
  d_le := Nat.zero_le _
  buffer_le := Nat.zero_le _
  active_le := Nat.zero_le _

/-- The reset values of a zone are those of a load with the default configuration. -/
theorem Zone.reset_lawful : Zone.reset.Lawful :=
  Zone.loaded_lawful ZoneConfig.default_lawful

/-- The applied base ends between where it was and the clamped base (R156). -/
theorem slewTo_range {slew ba base lo hi : Nat} (hba : lo ≤ ba ∧ ba ≤ hi) (hbase : lo ≤ base ∧ base ≤ hi) :
    lo ≤ slewTo slew ba base ∧ slewTo slew ba base ≤ hi := by
  unfold slewTo
  split
  · omega
  · split <;> omega

/-- The fade factor is at most 256 (R157). -/
theorem fadeFactor_le (w : Frame) (live : List Cue) (owner : Option Port) : fadeFactor w live owner ≤ 256 := by
  have key : ∀ (l : List Cue) (p : Port) (g : Nat), g ≤ 256 → l.foldl (fun g c => min g ((c.fadeFactor w p).getD 256)) g ≤ 256 := by
    intro l p
    induction l with
    | nil => exact fun g hg => hg
    | cons c l ih => exact fun g hg => ih _ ((Nat.min_le_left _ _).trans hg)
  cases owner with
  | none => exact Nat.le_refl _
  | some p => exact key live p 256 (Nat.le_refl _)

theorem dutyOf_le {ba g : Nat} (hba : ba ≤ 1000) (hg : g ≤ 256) : dutyOf ba g ≤ 1000 := by
  have : ba * g ≤ 1000 * 256 := Nat.mul_le_mul hba hg
  unfold dutyOf
  omega

theorem compareOf_le {d p : Nat} (hd : d ≤ 1000) (hp : p ≤ 4095) : compareOf d p ≤ 4095 := by
  have : d * p ≤ 1000 * 4095 := Nat.mul_le_mul hd hp
  unfold compareOf
  omega

/-- The computation at a strobe keeps the law of a zone (R152 to R160). -/
theorem Zone.Lawful.compute {z : Zone} (h : z.Lawful) (w : Frame) (live : List Cue) (sensors : Vector Sensor 8) {p : Nat}
    (hp : p ≤ 4095) : (z.compute w live sensors p).Lawful := by
  have hba := slewTo_range (slew := z.config.slew) h.ba_range
    (clampNat_range h.config.limits.1 (z.config.target (z.config.ambient sensors) * z.config.trim / 64))
  have hd := dutyOf_le (hba.2.trans h.config.limits.2) (fadeFactor_le w live z.config.owner)
  exact { h with
    ba_range := hba
    g_le := fadeFactor_le w live z.config.owner
    d_le := hd
    buffer_le := compareOf_le hd hp }

theorem Zone.Lawful.configure {z : Zone} (h : z.Lawful) {config : ZoneConfig} (hc : config.Lawful) :
    (z.configure config).Lawful :=
  { h with config := hc, ba_range := clampNat_range hc.limits.1 z.ba }

/-- The configuration of a ZONE_SET lies in the stored ranges (R41, R151). -/
theorem zoneConfig_lawful (m : Message) : m.zoneConfig.Lawful where
  fixed_le := Nat.min_le_right _ _
  curve_le i := by
    simp only [Message.zoneConfig, permille, Fin.getElem_fin, Vector.getElem_ofFn]
    exact Nat.min_le_right _ _
  trim_range := clampNat_range (by decide) _
  limits := ⟨Nat.min_le_right _ _, Nat.min_le_right _ _⟩
  slew_range := clampNat_range (by decide) _

theorem Dimmer.reset_lawful : Dimmer.reset.Lawful where
  zones z := by
    have h : Dimmer.reset.zones[z] = .reset := by simp [Dimmer.reset]
    rw [h]
    exact Zone.reset_lawful
  period_range := by decide
  counterPeriod_range := by decide
  counter_lt := by decide
  divider_lt := by decide
  stopped_still _ := ⟨rfl, rfl⟩

theorem Dimmer.Lawful.handover {d : Dimmer} (h : d.Lawful) {common : WallCommon} (hc : common.Lawful) :
    (d.handover common).Lawful :=
  { h with period_range := hc.period_range }

theorem Dimmer.Lawful.configure {d : Dimmer} (h : d.Lawful) (z : ZoneId) {config : ZoneConfig} (hc : config.Lawful) :
    { d with zones := modifyAt d.zones z (Zone.configure config) }.Lawful :=
  { h with
    zones := fun y => by
      simp only [modifyAt_get]
      split
      · exact (h.zones y).configure hc
      · exact h.zones y }

/-- A strobe keeps the law, with a legal period handed over at it or none (R152, R162). -/
theorem Dimmer.Lawful.strobe {d : Dimmer} (h : d.Lawful) (w : Frame) (live : List Cue) (sensors : Vector Sensor 8)
    {handed : Option Nat} (hh : ∀ p ∈ handed, 100 ≤ p ∧ p ≤ 4095) (first : Bool) :
    (d.strobe w live sensors handed first).Lawful := by
  have hp : 100 ≤ handed.getD d.p ∧ handed.getD d.p ≤ 4095 := by
    cases handed with
    | none => exact h.period_range
    | some p => exact hh p rfl
  exact { h with
    zones := fun z => by
      simp only [Dimmer.strobe, mapAt_get]
      refine (h.zones z).compute _ _ _ ?_
      split
      · exact hp.2
      · exact h.period_range.2
    period_range := hp }

theorem Dimmer.Lawful.wrap {d : Dimmer} (h : d.Lawful) : d.wrap.Lawful := by
  cases hr : d.running with
  | false => rw [Dimmer.wrap, if_neg (by simp [hr])]; exact h
  | true =>
    rw [dimmerWrap_runs hr]
    exact { h with
      zones := fun z => by
        simp only [mapAt_get]
        exact { h.zones z with active_le := (h.zones z).buffer_le }
      counterPeriod_range := h.period_range
      counter_lt := Nat.lt_of_lt_of_le (by decide : 0 < 100) h.period_range.1
      divider_lt := (by decide : 0 < 8)
      stopped_still := fun _ => ⟨rfl, rfl⟩ }

theorem Dimmer.Lawful.basePeriod {d : Dimmer} (h : d.Lawful) : d.basePeriod.Lawful := by
  cases hr : d.running with
  | false => rw [dimmerBasePeriod_stopped hr]; exact h
  | true =>
    have still : ∀ P : Prop, d.running = false → P := fun P hf => by rw [hr] at hf; cases hf
    rw [dimmerBasePeriod_runs hr]
    split
    · next hd => exact { h with divider_lt := hd, stopped_still := still _ }
    · split
      · next hc => exact { h with counter_lt := hc, divider_lt := (by decide : 0 < 8), stopped_still := still _ }
      · exact h.wrap

/-! ### Settings page -/

theorem Permission.default_lawful : Permission.default.Lawful := by
  intro range h
  cases h
  decide

theorem Settings.default_lawful : Settings.default.Lawful where
  timebase b h := by cases h
  common := WallCommon.default_lawful
  echo p := by simp [Settings.default]
  zones z := by
    have h : Settings.default.zones[z] = .default := by simp [Settings.default]
    rw [h]; exact ZoneConfig.default_lawful
  permits p := by
    have h : Settings.default.permits[p] = .default := by simp [Settings.default]
    rw [h]; exact Permission.default_lawful

theorem SettingsPage.Lawful.loadedSettings {p : SettingsPage} (h : p.Lawful) : p.loadedSettings.Lawful := by
  unfold SettingsPage.loadedSettings
  split
  · cases hr : p.record with
    | none => exact Settings.default_lawful
    | some set => exact h.record set hr
  · exact Settings.default_lawful

theorem SettingsPage.Lawful.beginSave {p : SettingsPage} (h : p.Lawful) {snapshot : Settings} (hs : snapshot.Lawful) :
    (p.beginSave snapshot).Lawful where
  record := h.record
  marker_record hm := by cases hm
  saving phase x hx := by
    cases hx
    exact ⟨hs, rfl, fun he => (nomatch he), fun he => (by rcases he with he | he <;> cases he)⟩

theorem SettingsPage.Lawful.erased {p : SettingsPage} (h : p.Lawful) : p.erased.Lawful := by
  unfold SettingsPage.erased
  split
  · next snapshot hst =>
    obtain ⟨hs, hm, -⟩ := h.saving _ _ hst
    exact
      { record := fun set hset => by cases hset
        marker_record := fun hm' => by simp [hm] at hm'
        saving := fun phase x hx => by
          cases hx
          exact ⟨hs, hm, fun _ => rfl, fun he => (by rcases he with he | he <;> cases he)⟩ }
  all_goals exact h

theorem SettingsPage.Lawful.programmed {p : SettingsPage} (h : p.Lawful) : p.programmed.Lawful := by
  unfold SettingsPage.programmed
  split
  · next snapshot hst =>
    obtain ⟨hs, hm, -⟩ := h.saving _ _ hst
    exact
      { record := fun set hset => by cases hset; exact hs
        marker_record := fun _ => rfl
        saving := fun phase x hx => by
          cases hx
          exact ⟨hs, hm, fun he => (nomatch he), fun _ => rfl⟩ }
  all_goals exact h

theorem SettingsPage.Lawful.matched {p : SettingsPage} (h : p.Lawful) : p.matched.Lawful := by
  unfold SettingsPage.matched
  split
  · next snapshot hst =>
    obtain ⟨hs, hm, -, hrec⟩ := h.saving _ _ hst
    exact
      { record := h.record
        marker_record := h.marker_record
        saving := fun phase x hx => by
          cases hx
          exact ⟨hs, hm, fun he => (nomatch he), fun _ => hrec (.inl rfl)⟩ }
  all_goals exact h

/-- The end of a save keeps the law: a marker is set only on a written record (R167). -/
theorem SettingsPage.Lawful.endSave {p : SettingsPage} (h : p.Lawful) {marked : Bool}
    (hm : marked = true → p.record.isSome = true) : (p.endSave marked).Lawful where
  record := h.record
  marker_record := hm
  saving phase x hx := by cases hx

theorem inPhase_iff {phase : SavePhase} {p : SettingsPage} :
    p.inPhase phase = true ↔ ∃ snapshot, p.state = .saving phase snapshot := by
  unfold SettingsPage.inPhase
  split <;> simp_all

/-- A phase that ends leaves whether a save runs, and a page in LOADING, as they were (R167). -/
theorem page_phases_state {p q : SettingsPage} (hq : q = p.erased ∨ q = p.programmed ∨ q = p.matched) :
    ((∃ phase snapshot, q.state = .saving phase snapshot) ↔ ∃ phase snapshot, p.state = .saving phase snapshot)
      ∧ ∀ begun, q.state = .loading begun → p.state = .loading begun := by
  rcases hq with rfl | rfl | rfl
  · unfold SettingsPage.erased; split <;> simp_all
  · unfold SettingsPage.programmed; split <;> simp_all
  · unfold SettingsPage.matched; split <;> simp_all

end Sys2Proof.Machine
end

section
/-! PROOFS. The laws of the player links (R22, R23, R25, R30, R36) and of the edit unit's slots (R71 to R75, R89), operation by
operation. -/

namespace Sys2Proof.Machine

/-! ### The length of a message as its characters arrive -/

theorem keepCharacter_length (buffer : List Byte) (b : Byte) (count : Nat) (h : buffer.length = min count bufferCap) :
    (keepCharacter buffer b).length = min (count + 1) bufferCap := by
  unfold keepCharacter
  split
  · rw [List.length_append, List.length_singleton]; omega
  · omega

/-- A further character leaves the characters before it in their places. -/
theorem keepCharacter_char (buffer : List Byte) (b : Byte) {pos : Nat} (hp : pos - 1 < buffer.length) :
    Message.char (keepCharacter buffer b) pos = Message.char buffer pos := by
  unfold keepCharacter Message.char
  split
  · exact List.getD_append _ _ _ _ hp
  · rfl

theorem keepCharacter_kind (buffer : List Byte) (b : Byte) (h : buffer ≠ []) :
    Message.kind (keepCharacter buffer b) = Message.kind buffer := by
  rw [Message.kind, keepCharacter_char buffer b (List.length_pos_iff.2 h), Message.kind]

/-- The length of a message other than a CUE_PUT does not change as its characters arrive (R23). -/
theorem messageLength_congr {l m : List Byte} (hk : Message.kind l = Message.kind m) (hp : Message.kind m ≠ some .cuePut) :
    messageLength l = messageLength m := by
  unfold messageLength
  rw [hk]
  cases h : Message.kind m with
  | none => rfl
  | some k => cases k <;> first | rfl | exact absurd h hp

/-- A message that is short of its length is not beyond it with one more character, where a CUE_PUT shows its length with its
25th (R23). -/
theorem keepCharacter_short {buffer : List Byte} {count : Nat} (b : Byte) (hl : buffer.length = min count bufferCap)
    (hc : 1 ≤ count) (hs : ∀ n ∈ messageLength buffer, count < n) :
    ∀ n ∈ messageLength (keepCharacter buffer b), count + 1 ≤ n := by
  intro n hn
  have hcap : bufferCap = 43 := rfl
  have hne : buffer ≠ [] := by rintro rfl; simp at hl; omega
  have hk := keepCharacter_kind buffer b hne
  by_cases hp : Message.kind buffer = some .cuePut
  · have hl' := keepCharacter_length buffer b count hl
    rw [messageLength, hk, hp] at hn
    dsimp only at hn
    split at hn
    · cases hn
    · next h25 =>
      obtain rfl : 25 + 3 * Message.num (keepCharacter buffer b) 25 = n := Option.some.inj hn
      by_cases hlt : buffer.length < 25
      · omega
      · have hnum : Message.num (keepCharacter buffer b) 25 = Message.num buffer 25 := by
          rw [Message.num, keepCharacter_char buffer b (by omega), Message.num]
        rw [hnum]
        exact hs _ (by rw [messageLength, hp]; simp [hlt])
  · rw [messageLength_congr hk hp] at hn
    exact hs n hn

/-- No message ends with its kind character (R23). -/
theorem messageLength_kind (code : Byte) : ∀ n ∈ messageLength [code], 1 < n := by
  intro n hn
  unfold messageLength at hn
  split at hn <;> simp at hn <;> omega

/-! ### Links -/

theorem Link.reset_lawful (cts : Bool) : (Link.reset cts).Lawful where
  assembling buffer count h := by cases h
  holding_edit m h := by cases h
  stopped_iff := Iff.rfl |>.trans (by simp [Link.reset])
  stopped_still _ := ⟨rfl, rfl, rfl⟩
  waiting_cts rest h := by cases h

/-- A new flag setting on a port whose receiver runs. -/
theorem Link.Lawful.setFlags {l : Link} (h : l.Lawful) (hr : l.receiver ≠ .stopped) (flags : StickyFlags) :
    { l with flags := flags }.Lawful :=
  { h with stopped_still := fun hs => absurd hs hr }

theorem Link.Lawful.clearFlags {l : Link} (h : l.Lawful) : { l with flags := .clear }.Lawful :=
  { h with stopped_still := fun hs => ⟨(h.stopped_still hs).1, (h.stopped_still hs).2.1, rfl⟩ }

/-- A transmitter that does not wait for CTS. -/
theorem Link.Lawful.setTx {l : Link} (h : l.Lawful) {tx : TxState} (ht : ∀ rest, tx ≠ .waiting rest) :
    { l with tx := tx }.Lawful :=
  { h with waiting_cts := fun rest hw => absurd hw (ht rest) }

theorem Link.Lawful.setHolding {l : Link} (h : l.Lawful) (hr : l.receiver ≠ .stopped) {m : Message} {k : RequestKind}
    (hk : Message.kind m = some k) (he : k.isEdit = true) : { l with holding := some m }.Lawful :=
  { h with
    holding_edit := fun x hx => by cases hx; exact ⟨k, hk, he⟩
    stopped_still := fun hs => absurd hs hr }

theorem Link.Lawful.clearHolding {l : Link} (h : l.Lawful) : { l with holding := none }.Lawful :=
  { h with
    holding_edit := fun x hx => by cases hx
    stopped_still := fun hs => ⟨(h.stopped_still hs).1, rfl, (h.stopped_still hs).2.2⟩ }

theorem Link.Lawful.hunting {l : Link} (h : l.Lawful) : { l with rx := .hunting }.Lawful :=
  { h with
    assembling := fun buffer count hx => by cases hx
    stopped_still := fun hs => ⟨rfl, (h.stopped_still hs).2⟩ }

theorem Link.Lawful.badCharacter {l : Link} (h : l.Lawful) (hr : l.receiver = .ready) (ch : LineChar) :
    (l.badCharacter ch).Lawful := by
  have hd : l.detector ≠ .stopped := fun hd => by simp [h.stopped_iff.2 hd] at hr
  have hne : (if ch.stopMark then l.receiver else .awaitingMark) ≠ .stopped := by split <;> simp [hr]
  exact { h.hunting with
    stopped_iff := ⟨fun hs => absurd hs hne, fun hs => absurd hs hd⟩
    stopped_still := fun hs => absurd hs hne }

theorem Link.Lawful.markCharacter {l : Link} (h : l.Lawful) (hr : l.receiver = .ready) (code : Byte) :
    (l.markCharacter code).Lawful := by
  have hne : l.receiver ≠ .stopped := by simp [hr]
  unfold Link.markCharacter
  dsimp only
  split
  · next k hk =>
    exact { h with
      assembling := fun buffer count hx => by
        cases hx
        exact ⟨rfl, Nat.le_refl 1, by simp [Message.kind, Message.char, hk], messageLength_kind code⟩
      stopped_still := fun hs => absurd hs hne }
  · exact h.hunting.setFlags hne _

theorem Link.Lawful.dataCharacter {l : Link} (h : l.Lawful) (hr : l.receiver = .ready) (b : Byte) :
    (l.dataCharacter b).1.Lawful := by
  unfold Link.dataCharacter
  split
  · exact h
  · next buffer count hx =>
    obtain ⟨hl, hc, hk, hs⟩ := h.assembling buffer count hx
    have hne : buffer ≠ [] := by rintro rfl; simp [bufferCap] at hl; omega
    dsimp only
    split
    · exact h.hunting
    · next hm =>
      exact { h with
        assembling := fun buffer' count' hx' => by
          cases hx'
          refine ⟨keepCharacter_length buffer b count hl, Nat.le_add_left 1 count, by rw [keepCharacter_kind buffer b hne]; exact hk,
            fun n hn => ?_⟩
          have hle := keepCharacter_short b hl hc hs n hn
          have hn' : count + 1 ≠ n := fun e => hm (e ▸ hn)
          omega
        stopped_still := fun hs => by simp [hr] at hs }

/-- A character keeps the law of its port (R21 to R24). -/
theorem Link.Lawful.receive {l : Link} (h : l.Lawful) (ch : LineChar) : (l.receive ch).1.Lawful := by
  rcases link_receive_cases ch l with ⟨_, he⟩ | ⟨hr, _, he⟩ | ⟨hr, _, _, he⟩ | ⟨hr, _, _, he⟩ <;> rw [he]
  · exact h
  · exact h.badCharacter hr ch
  · exact h.markCharacter hr ch.data
  · exact h.dataCharacter hr ch.data

theorem dataCharacter_frame (b : Byte) (l : Link) : (l.dataCharacter b).1 = { l with rx := (l.dataCharacter b).1.rx } := by
  unfold Link.dataCharacter
  split
  · rfl
  · dsimp only; split <;> rfl

/-- A character leaves the holding slot alone, starts no stopped receiver, and completes a message only where the receiver was
ready and stays so. -/
theorem link_receive_keeps (ch : LineChar) (l : Link) :
    (l.receive ch).1.holding = l.holding ∧ (l.receiver = .stopped → (l.receive ch).1.receiver = .stopped)
      ∧ ∀ m, (l.receive ch).2 = some m → (l.receive ch).1.receiver = .ready := by
  rcases link_receive_cases ch l with ⟨_, he⟩ | ⟨hr, _, he⟩ | ⟨hr, _, _, he⟩ | ⟨hr, _, _, he⟩ <;> rw [he]
  · exact ⟨rfl, id, fun m hm => nomatch hm⟩
  · exact ⟨rfl, fun hs => by simp [hr] at hs, fun m hm => nomatch hm⟩
  · refine ⟨?_, fun hs => by simp [hr] at hs, fun m hm => nomatch hm⟩
    unfold Link.markCharacter
    dsimp only
    split <;> rfl
  · rw [dataCharacter_frame]
    exact ⟨rfl, fun hs => by simp [hr] at hs, fun m _ => hr⟩

theorem Link.Lawful.stopBitEnd {l : Link} (h : l.Lawful) : l.stopBitEnd.Lawful := by
  unfold Link.stopBitEnd
  split
  · split
    · exact h.setTx fun rest hw => by cases hw
    · next hcts =>
      exact { h with
        waiting_cts := fun rest hw => by cases hw; exact ⟨List.cons_ne_nil _ _, by simpa using hcts⟩ }
  · exact h.setTx fun rest hw => by cases hw
  all_goals exact h

theorem Link.Lawful.messageEnd {l : Link} (h : l.Lawful) : l.messageEnd.Lawful := by
  unfold Link.messageEnd
  split
  · exact h.setTx fun rest hw => by cases hw
  all_goals exact h

theorem Link.Lawful.ctsChange {l : Link} (h : l.Lawful) (level : Bool) : (l.ctsChange level).Lawful := by
  have other : (∀ rest, l.tx ≠ .waiting rest) → { l with cts := level }.Lawful := fun hn =>
    { h with waiting_cts := fun rest hw => absurd hw (hn rest) }
  unfold Link.ctsChange
  split
  · cases level with
    | true => exact { h with waiting_cts := fun rest hw => by cases hw }
    | false => exact { h with waiting_cts := fun rest hw => by cases hw; exact ⟨List.cons_ne_nil _ _, rfl⟩ }
  · next hw => exact absurd rfl (h.waiting_cts [] hw).1
  · next hw => exact other fun rest hw' => by simp [hw] at hw'
  · next hw => exact other fun rest hw' => by simp [hw] at hw'
  · next hw => exact other fun rest hw' => by simp [hw] at hw'

theorem stopBitEnd_frame (l : Link) : l.stopBitEnd = { l with tx := l.stopBitEnd.tx } := by
  unfold Link.stopBitEnd; split <;> rfl

theorem messageEnd_frame (l : Link) : l.messageEnd = { l with tx := l.messageEnd.tx } := by
  unfold Link.messageEnd; split <;> rfl

theorem ctsChange_frame (level : Bool) (l : Link) :
    l.ctsChange level = { l with tx := (l.ctsChange level).tx, cts := (l.ctsChange level).cts } := by
  unfold Link.ctsChange; split <;> rfl

theorem Link.Lawful.portReset {l : Link} (_h : l.Lawful) : l.portReset.Lawful where
  assembling buffer count hx := by cases hx
  holding_edit m hm := by cases hm
  stopped_iff := by simp [Link.portReset]
  stopped_still hs := by cases hs
  waiting_cts rest hw := by
    simp only [Link.portReset] at hw
    unfold TxState.abandon at hw
    split at hw <;> cases hw

theorem Link.Lawful.started {l : Link} (h : l.Lawful) (atSpace : Bool) : (l.started atSpace).Lawful := by
  have hne : (l.started atSpace).receiver ≠ .stopped := by
    simp only [Link.started]; split <;> simp
  exact { h.hunting with
    stopped_iff := ⟨fun hs => absurd hs hne, fun hs => by cases hs⟩
    stopped_still := fun hs => absurd hs hne }

/-- A port whose RXD returned to mark (R21, R32). -/
def Link.returnToMark (l : Link) : Link :=
  { l with
    receiver := if l.receiver = .awaitingMark then .ready else l.receiver
    detector := if l.detector = .awaitingMark then .measuring else l.detector }

theorem returnToMark_stopped (l : Link) :
    (l.returnToMark.receiver = .stopped ↔ l.receiver = .stopped) ∧ (l.returnToMark.detector = .stopped ↔ l.detector = .stopped) := by
  simp only [Link.returnToMark]
  constructor <;> split <;> simp_all

theorem Link.Lawful.returnToMark {l : Link} (h : l.Lawful) : l.returnToMark.Lawful :=
  { h with
    stopped_iff := ((returnToMark_stopped l).1.trans h.stopped_iff).trans (returnToMark_stopped l).2.symm
    stopped_still := fun hs => h.stopped_still ((returnToMark_stopped l).1.1 hs) }

/-! ### The slots of one port -/

/-- What the law of the edit unit asks of the slots of one port (R71, R72). -/
structure SlotsLawful (l : List EditSlot) : Prop where
  length_le : l.length ≤ slotCount
  names : (l.map (·.name)).Nodup
  edits : ∀ x ∈ l, ∃ k ∈ Message.kind x.edit, k.isEdit = true

theorem SlotsLawful.sublist {l m : List EditSlot} (h : SlotsLawful l) (hs : m.Sublist l) : SlotsLawful m where
  length_le := hs.length_le.trans h.length_le
  names := h.names.sublist (hs.map _)
  edits x hx := h.edits x (hs.subset hx)

theorem freeSlotName_free {l : List EditSlot} (hl : l.length < slotCount) : ∀ x ∈ l, x.name ≠ freeSlotName l := by
  intro x hx
  match l, hl, hx with
  | [y], _, hx =>
    obtain rfl := List.mem_singleton.1 hx
    unfold freeSlotName
    cases h : x.name <;> simp [h]

/-- An edit in an EMPTY slot (R71). -/
theorem SlotsLawful.enqueue {l : List EditSlot} (h : SlotsLawful l) (hl : l.length < slotCount) {m : Message} {k : RequestKind}
    (hk : Message.kind m = some k) (he : k.isEdit = true) : SlotsLawful (enqueue m l) where
  length_le := by simp only [Machine.enqueue, List.length_append, List.length_singleton]; omega
  names := by
    simp only [Machine.enqueue, List.map_append, List.map_cons, List.map_nil]
    refine List.nodup_append.2 ⟨h.names, List.nodup_singleton _, fun name hname new hnew => ?_⟩
    obtain ⟨x, hx, rfl⟩ := List.mem_map.1 hname
    obtain rfl := List.mem_singleton.1 hnew
    exact freeSlotName_free hl x hx
  edits x hx := by
    rcases List.mem_append.1 hx with hx | hx
    · exact h.edits x hx
    · obtain rfl := List.mem_singleton.1 hx
      exact ⟨k, hk, he⟩

theorem activateHead_length (l : List EditSlot) : (activateHead l).length = l.length := by
  induction l with
  | nil => rfl
  | cons x xs ih =>
    simp only [activateHead]
    split <;> simp [ih]

theorem activateHead_names (l : List EditSlot) : (activateHead l).map (·.name) = l.map (·.name) := by
  induction l with
  | nil => rfl
  | cons x xs ih =>
    simp only [activateHead]
    split <;> simp [ih]

/-- The arbiter changes no edit, and gives a new status to the head alone (R75). -/
theorem mem_activateHead {l : List EditSlot} {x : EditSlot} (hx : x ∈ activateHead l) :
    x ∈ l ∨ ∃ slot, headOf l = some slot ∧ slot ∈ l ∧ x = { slot with status := .active false } := by
  induction l with
  | nil => cases hx
  | cons y ys ih =>
    simp only [activateHead] at hx
    split at hx
    · next hq =>
      rcases List.mem_cons.1 hx with rfl | hx
      · exact .inr ⟨y, by simp [headOf, hq], List.mem_cons_self, rfl⟩
      · exact .inl (List.mem_cons_of_mem _ hx)
    · next hq =>
      rcases List.mem_cons.1 hx with rfl | hx
      · exact .inl List.mem_cons_self
      · rcases ih hx with h | ⟨slot, hs, hm, rfl⟩
        · exact .inl (List.mem_cons_of_mem _ h)
        · exact .inr ⟨slot, by simpa [headOf, List.find?_cons, hq] using hs, List.mem_cons_of_mem _ hm, rfl⟩

theorem SlotsLawful.activateHead {l : List EditSlot} (h : SlotsLawful l) : SlotsLawful (activateHead l) where
  length_le := (activateHead_length l).trans_le h.length_le
  names := by rw [activateHead_names]; exact h.names
  edits x hx := by
    rcases mem_activateHead hx with hx | ⟨slot, _, hs, rfl⟩
    · exact h.edits x hx
    · exact h.edits slot hs

/-- Slots that are settled one by one, each keeping its name and its edit or EMPTY after it. -/
theorem SlotsLawful.filterMap {l : List EditSlot} (h : SlotsLawful l) {f : EditSlot → Option EditSlot}
    (hf : ∀ x y, f x = some y → y.name = x.name ∧ y.edit = x.edit) : SlotsLawful (l.filterMap f) where
  length_le := (List.length_filterMap_le f l).trans h.length_le
  names := by
    have hsub : ((l.filterMap f).map (·.name)).Sublist (l.map (·.name)) := by
      clear h
      induction l with
      | nil => exact .slnil
      | cons x xs ih =>
        cases hx : f x with
        | none => rw [List.filterMap_cons_none hx]; exact ih.cons _
        | some y =>
          rw [List.filterMap_cons_some hx, List.map_cons, List.map_cons, (hf x y hx).1]
          exact ih.cons_cons _
    exact h.names.sublist hsub
  edits y hy := by
    obtain ⟨x, hx, hxy⟩ := List.mem_filterMap.1 hy
    rw [(hf x y hxy).2]
    exact h.edits x hx

theorem finishSlot_keeps {outcome : EditOutcome} {x y : EditSlot} (h : finishSlot outcome x = some y) :
    y.name = x.name ∧ y.edit = x.edit := by
  unfold finishSlot at h
  split at h <;> cases h <;> exact ⟨rfl, rfl⟩

theorem resetSlot_keeps {x y : EditSlot} (h : resetSlot x = some y) : y.name = x.name ∧ y.edit = x.edit := by
  unfold resetSlot at h
  split at h <;> cases h
  exact ⟨rfl, rfl⟩

theorem dropFirstDone_sublist (l : List EditSlot) : (dropFirstDone l).Sublist l := by
  induction l with
  | nil => exact .slnil
  | cons x xs ih =>
    simp only [dropFirstDone]
    split
    · exact List.sublist_cons_self x xs
    · exact ih.cons_cons x

/-! ### ACTIVE slots -/

theorem isActive_iff (x : EditSlot) : x.isActive = true ↔ ∃ orphan, x.status = .active orphan := by
  cases h : x.status with
  | queued | done => simp [EditSlot.isActive, h]
  | active orphan => cases orphan <;> simp [EditSlot.isActive, h]

/-- The number of ACTIVE slots of a port. -/
def activeCount (l : List EditSlot) : Nat :=
  l.countP EditSlot.isActive

theorem activeCount_enqueue (m : Message) (l : List EditSlot) : activeCount (enqueue m l) = activeCount l := by
  simp [activeCount, enqueue, List.countP_append, EditSlot.isActive]

theorem activeCount_activateHead {l : List EditSlot} {slot : EditSlot} (h : headOf l = some slot) :
    activeCount (activateHead l) = activeCount l + 1 := by
  unfold activeCount
  induction l with
  | nil => cases h
  | cons x xs ih =>
    simp only [activateHead]
    split
    · next hq =>
      have hx : ¬ x.isActive = true := by simp [isActive_iff, hq]
      rw [List.countP_cons_of_pos (by simp [EditSlot.isActive]), List.countP_cons_of_neg hx]
    · next hq =>
      have ih := ih (by simpa [headOf, List.find?_cons, hq] using h)
      rw [List.countP_cons, List.countP_cons, ih]
      omega

theorem activeCount_finish (outcome : EditOutcome) (l : List EditSlot) : activeCount (l.filterMap (finishSlot outcome)) = 0 := by
  refine List.countP_eq_zero.2 fun y hy => ?_
  obtain ⟨x, _, hxy⟩ := List.mem_filterMap.1 hy
  unfold finishSlot at hxy
  split at hxy <;> cases hxy <;> simp_all [EditSlot.isActive]

theorem activeCount_reset (l : List EditSlot) : activeCount (l.filterMap resetSlot) = activeCount l := by
  unfold activeCount
  induction l with
  | nil => rfl
  | cons x xs ih =>
    cases hs : x.status with
    | queued | done =>
      rw [List.filterMap_cons_none (by simp [resetSlot, hs]), ih, List.countP_cons_of_neg (by simp [isActive_iff, hs])]
    | active orphan =>
      have hr : resetSlot x = some { x with status := .active true } := by simp [resetSlot, hs]
      rw [List.filterMap_cons_some hr, List.countP_cons_of_pos (by simp [EditSlot.isActive]),
        List.countP_cons_of_pos (by simp [isActive_iff, hs]), ih]

theorem activeCount_dropFirstDone (l : List EditSlot) : activeCount (dropFirstDone l) = activeCount l := by
  unfold activeCount
  induction l with
  | nil => rfl
  | cons x xs ih =>
    simp only [dropFirstDone]
    split
    · next hd =>
      have hx : ¬ x.isActive = true := by
        rw [isActive_iff]
        rintro ⟨orphan, hs⟩
        simp [EditSlot.isDone, hs] at hd
      rw [List.countP_cons_of_neg hx]
    · rw [List.countP_cons, List.countP_cons, ih]

theorem mem_allPorts (p : Port) : p ∈ allPorts := by
  revert p; decide

/-- The ACTIVE slots of the part, counted port by port. -/
theorem activeSlots_length (eu : EditUnit) : eu.activeSlots.length = ∑ p : Port, activeCount eu.slots[p] := by
  simp only [EditUnit.activeSlots, List.length_flatMap, List.length_map, ← List.countP_eq_length_filter]
  rw [Fin.sum_univ_six]
  simp only [allPorts, List.map_cons, List.map_nil, List.sum_cons, List.sum_nil, activeCount]
  omega

theorem mem_activeSlots {eu : EditUnit} {p : Port} {x : EditSlot} :
    (p, x) ∈ eu.activeSlots ↔ x ∈ eu.slots[p] ∧ x.isActive = true := by
  simp only [EditUnit.activeSlots, List.mem_flatMap, List.mem_map, List.mem_filter, Prod.mk.injEq]
  constructor
  · rintro ⟨q, _, y, hy, rfl, rfl⟩
    exact hy
  · intro h
    exact ⟨p, mem_allPorts p, x, h, rfl, rfl⟩

/-- How a sum over the entries of a vector changes with one of them. -/
theorem sum_modifyAt {α : Type} {n : Nat} (v : Vector α n) (i : Fin n) (f : α → α) (g : α → Nat) :
    ∑ j : Fin n, g (modifyAt v i f)[j] + g v[i] = ∑ j : Fin n, g v[j] + g (f v[i]) := by
  have hrest : ∑ j ∈ Finset.univ.erase i, g (modifyAt v i f)[j] = ∑ j ∈ Finset.univ.erase i, g v[j] :=
    Finset.sum_congr rfl fun j hj => by rw [modifyAt_other v (Finset.ne_of_mem_erase hj)]
  have h1 := Finset.add_sum_erase Finset.univ (fun j : Fin n => g (modifyAt v i f)[j]) (Finset.mem_univ i)
  have h2 := Finset.add_sum_erase Finset.univ (fun j : Fin n => g v[j]) (Finset.mem_univ i)
  simp only [modifyAt_same, hrest] at h1
  omega

/-- The slot that the unit works on is ACTIVE (R74). -/
theorem active_mem {eu : EditUnit} {p : Port} {x : EditSlot} (h : eu.active = some (p, x)) :
    x ∈ eu.slots[p] ∧ x.isActive = true := by
  obtain ⟨q, _, hq⟩ := List.exists_of_findSome?_eq_some h
  obtain ⟨y, hy, hyx⟩ := Option.map_eq_some_iff.1 hq
  cases hyx
  exact ⟨List.mem_of_find?_eq_some hy, List.find?_some hy⟩

theorem active_isSome {eu : EditUnit} (h : 0 < ∑ p : Port, activeCount eu.slots[p]) : ∃ p x, eu.active = some (p, x) := by
  cases ha : eu.active with
  | some a => exact ⟨a.1, a.2, rfl⟩
  | none =>
    obtain ⟨p, _, hp⟩ := Finset.exists_ne_zero_of_sum_ne_zero (Nat.ne_of_gt h)
    obtain ⟨x, hx, hactive⟩ := List.countP_pos_iff.1 (Nat.pos_of_ne_zero hp)
    have hnone := List.findSome?_eq_none_iff.1 ha p (mem_allPorts p)
    rw [Option.map_eq_none_iff, List.find?_eq_none] at hnone
    exact absurd hactive (hnone x hx)

/-! ### The law of the edit unit before the arbiter -/

/-- The law of the edit unit but for what the arbiter sees to: an IDLE unit may have left an edit QUEUED (R75). -/
structure EditUnit.Stocked (eu : EditUnit) : Prop where
  slots : ∀ p : Port, SlotsLawful eu.slots[p]
  active_count : ∑ p : Port, activeCount eu.slots[p] = if eu.state = .idle then 0 else 1
  storing_save : eu.state = .storing → ∀ p : Port, ∀ x ∈ eu.slots[p], x.isActive = true → Message.kind x.edit = some .save
  permits : ∀ p : Port, eu.permits[p].Lawful

theorem EditUnit.lawful_iff (eu : EditUnit) :
    eu.Lawful ↔ eu.Stocked ∧ (eu.state = .idle → ∀ p : Port, ∀ x ∈ eu.slots[p], x.status ≠ .queued) := by
  constructor
  · intro h
    refine ⟨⟨fun p => ⟨h.slots_le p, h.names p, h.edits p⟩, ?_, fun hs p x hx ha => ?_, h.permits⟩, h.idle_served⟩
    · rw [← activeSlots_length]; exact h.active_count
    · exact h.storing_save hs (p, x) (mem_activeSlots.2 ⟨hx, ha⟩)
  · rintro ⟨h, hi⟩
    exact
      { slots_le := fun p => (h.slots p).length_le
        names := fun p => (h.slots p).names
        edits := fun p => (h.slots p).edits
        active_count := by rw [activeSlots_length]; exact h.active_count
        storing_save := fun hs a ha => h.storing_save hs a.1 a.2 (mem_activeSlots.1 ha).1 (mem_activeSlots.1 ha).2
        idle_served := hi
        permits := h.permits }

theorem EditUnit.Stocked.no_active {eu : EditUnit} (h : eu.Stocked) (hi : eu.state = .idle) (p : Port) :
    ∀ x ∈ eu.slots[p], ¬ x.isActive = true := by
  have hsum := h.active_count
  rw [if_pos hi] at hsum
  exact List.countP_eq_zero.1 (Finset.sum_eq_zero_iff.1 hsum p (Finset.mem_univ p))

theorem EditUnit.reset_lawful : EditUnit.reset.Lawful := by
  have hslots : ∀ p : Port, EditUnit.reset.slots[p] = [] := fun p => by simp [EditUnit.reset]
  refine (EditUnit.lawful_iff _).2 ⟨⟨fun p => ?_, ?_, fun hs => (by cases hs), fun p => ?_⟩, fun _ p x hx => ?_⟩
  · rw [hslots p]
    exact ⟨Nat.zero_le _, List.nodup_nil, fun x hx => by cases hx⟩
  · exact Finset.sum_eq_zero fun p _ => by rw [hslots p]; rfl
  · have h : EditUnit.reset.permits[p] = .default := by simp [EditUnit.reset]
    rw [h]; exact Permission.default_lawful
  · rw [hslots p] at hx; cases hx

/-- The port that the arbiter serves has a head; where it serves none, no port has one (R75). -/
theorem nextPort_some {eu : EditUnit} {p : Port} (h : eu.nextPort = some p) : ∃ slot, headOf eu.slots[p] = some slot :=
  Option.isSome_iff_exists.1 (by simpa using List.find?_some h)

theorem nextPort_none {eu : EditUnit} (h : eu.nextPort = none) (p : Port) : ∀ x ∈ eu.slots[p], x.status ≠ .queued := by
  have hall : ∀ q p : Port, ∃ k ∈ allPorts, q + k = p := by decide
  obtain ⟨k, hk, rfl⟩ := hall eu.pointer p
  have hnone := List.find?_eq_none.1 h (eu.pointer + k) (List.mem_map_of_mem hk)
  simp only [Bool.not_eq_true, Option.isSome_eq_false_iff, Option.isNone_iff_eq_none] at hnone
  intro x hx hq
  exact absurd (decide_eq_true hq) (List.find?_eq_none.1 hnone x hx)

end Sys2Proof.Machine
end

section
/-! PROOFS. The law of a live cue (R54 to R58, R92 to R107, R116): what its parts amount to in each state, and the transitions,
answers and notices that keep it. -/

namespace Sys2Proof.Machine

/-! ### Fire minus W -/

/-- The frame difference follows a change of the fire frame that stays on the signed scale. -/
theorem frameDiff_add {x w k : Frame} (h : -2 ^ 31 ≤ frameDiff x w + k.toInt) (h' : frameDiff x w + k.toInt < 2 ^ 31) :
    frameDiff (x + k) w = frameDiff x w + k.toInt := by
  unfold frameDiff at *
  rw [show x + k - w = (x - w) + k by ring, BitVec.toInt_add]
  exact Int.bmod_eq_of_le (by omega) (by omega)

theorem ofNat_toInt {k : Nat} (h : k ≤ horizon) : (BitVec.ofNat 32 k).toInt = k := by
  have : horizon = 1073741824 := rfl
  rw [BitVec.toInt_ofNat']
  exact Int.bmod_eq_of_le (by omega) (by omega)

/-- Fire minus W goes down by one at a strobe. -/
theorem frameDiff_succ {x w : Frame} (h : -2 ^ 31 < frameDiff x w) : frameDiff x (w + 1) = frameDiff x w - 1 := by
  have hlt : frameDiff x w < 2 ^ 31 := by simpa [frameDiff] using BitVec.toInt_lt (x := x - w)
  have hone : (1 : Frame).toInt = 1 := by decide
  unfold frameDiff at *
  rw [sub_add_eq_sub_sub, BitVec.toInt_sub, hone]
  exact Int.bmod_eq_of_le (by omega) (by omega)

theorem ahead_add {c : Cue} {w : Frame} {k : Nat} {d : Cue} (hd : d.fire = c.fire + BitVec.ofNat 32 k) (hk : k ≤ horizon)
    (h : -horizon ≤ c.ahead w) (h' : c.ahead w ≤ horizon - 1) : d.ahead w = c.ahead w + k := by
  have hh : horizon = 1073741824 := rfl
  have hi := ofNat_toInt hk
  unfold Cue.ahead at *
  rw [hd, frameDiff_add (by omega) (by omega), hi]

/-! ### The parts of the law, state by state -/

theorem onTime_waiting {w : Frame} {c : Cue} (h : c.state = .waiting) :
    c.OnTime w ↔ (c.lead : Int) < c.ahead w ∧ c.ahead w ≤ horizon := by
  simp only [Cue.OnTime, h]

theorem onTime_asking {w : Frame} {c : Cue} (h : c.state = .asking) :
    c.OnTime w ↔ (c.margin : Int) < c.ahead w ∧ c.ahead w ≤ horizon := by
  simp only [Cue.OnTime, h]

theorem onTime_armed {w : Frame} {c : Cue} (h : c.state = .armed) :
    c.OnTime w ↔ 0 < c.ahead w ∧ c.ahead w ≤ c.margin := by
  simp only [Cue.OnTime, h]

theorem onTime_taken {w : Frame} {c : Cue} (h : c.state = .taken) :
    c.OnTime w ↔ -(c.li : Int) < c.ahead w ∧ c.ahead w ≤ 0 := by
  simp only [Cue.OnTime, h]

/-- What a WAITING cue holds (R56, R116). -/
structure Cue.Waiting (c : Cue) : Prop where
  none_armed : c.armed = 0
  not_asked : ∀ x ∈ c.participants, x.readiness = .notAsked
  notices : c.notices = Vector.replicate 6 .blank

/-- What an ASKING cue holds (R93, R94). -/
structure Cue.Asking (c : Cue) : Prop where
  none_armed : c.armed = 0
  asked : ∀ x ∈ c.participants, x.readiness ≠ .notAsked
  commits : ∀ p : Port, c.notices[p].owed ≠ some .commit

/-- What an ARMED and a TAKEN cue hold alike (R99, R102, R104). -/
structure Cue.Armed (c : Cue) : Prop where
  some_armed : c.armed ≠ 0
  ready : ∀ x ∈ c.participants, inMask c.armed x.port = true → x.readiness = .ready
  commits : ∀ p : Port, c.notices[p].owed = some .commit → inMask c.armed p = true

theorem Cue.InState.waiting {c : Cue} (h : c.InState) (hs : c.state = .waiting) : c.Waiting := by
  simp only [Cue.InState, hs] at h
  exact ⟨h.1, h.2.1, h.2.2⟩

theorem Cue.InState.asking {c : Cue} (h : c.InState) (hs : c.state = .asking) : c.Asking := by
  simp only [Cue.InState, hs] at h
  exact ⟨h.1, h.2.1, h.2.2⟩

theorem Cue.InState.armed {c : Cue} (h : c.InState) (hs : c.state = .armed) : c.Armed := by
  simp only [Cue.InState, hs] at h
  exact ⟨h.1, h.2.1, h.2.2⟩

theorem Cue.InState.taken {c : Cue} (h : c.InState) (hs : c.state = .taken) : c.transition = .dim ∧ c.Armed := by
  simp only [Cue.InState, hs] at h
  exact ⟨h.1, h.2.1, h.2.2.1, h.2.2.2⟩

theorem Cue.Waiting.inState {c : Cue} (h : c.Waiting) (hs : c.state = .waiting) : c.InState := by
  simp only [Cue.InState, hs]
  exact ⟨h.none_armed, h.not_asked, h.notices⟩

theorem Cue.Asking.inState {c : Cue} (h : c.Asking) (hs : c.state = .asking) : c.InState := by
  simp only [Cue.InState, hs]
  exact ⟨h.none_armed, h.asked, h.commits⟩

theorem Cue.Armed.inState {c : Cue} (h : c.Armed) (hs : c.state = .armed) : c.InState := by
  simp only [Cue.InState, hs]
  exact ⟨h.some_armed, h.ready, h.commits⟩

theorem Cue.Armed.inState_taken {c : Cue} (h : c.Armed) (hs : c.state = .taken) (ht : c.transition = .dim) : c.InState := by
  simp only [Cue.InState, hs]
  exact ⟨ht, h.some_armed, h.ready, h.commits⟩

/-- The law of a live cue but for the time: what only a change of the record can break. -/
structure Cue.Kept (c : Cue) : Prop where
  stored : c.Stored
  inState : c.InState
  onPorts : c.OnPorts

theorem Cue.lawful_iff (w : Frame) (c : Cue) : c.Lawful w ↔ c.Kept ∧ c.OnTime w :=
  ⟨fun h => ⟨⟨h.stored, h.inState, h.onPorts⟩, h.onTime⟩, fun h => ⟨h.1.stored, h.2, h.1.inState, h.1.onPorts⟩⟩

/-! ### Ports -/

@[simp] theorem hasPort_mapReadiness (f : Readiness → Readiness) (c : Cue) (p : Port) :
    (c.mapReadiness f).hasPort p = c.hasPort p := by
  simp [Cue.hasPort, Cue.mapReadiness, List.any_map, Function.comp_def]

@[simp] theorem hasPort_setReadiness (q : Port) (r : Readiness) (c : Cue) (p : Port) :
    (c.setReadiness q r).hasPort p = c.hasPort p := by
  simp only [Cue.hasPort, Cue.setReadiness, List.any_map, Function.comp_def]
  congr 1
  funext x
  split <;> rfl

@[simp] theorem hasPort_offerTo (duty : CueNotice) (dest : Port → Bool) (c : Cue) (p : Port) :
    (c.offerTo duty dest).hasPort p = c.hasPort p := rfl

theorem hasPort_of_mem {c : Cue} {x : Participant} (hx : x ∈ c.participants) : c.hasPort x.port = true :=
  (hasPort_iff c x.port).2 ⟨x, hx, rfl⟩

theorem Cue.Stored.mapReadiness {c : Cue} (h : c.Stored) (f : Readiness → Readiness) : (c.mapReadiness f).Stored :=
  { h with
    participants_range := by simpa [Cue.mapReadiness] using h.participants_range
    ports_nodup := by simpa [Cue.mapReadiness, Function.comp_def] using h.ports_nodup }

theorem Cue.Stored.setReadiness {c : Cue} (h : c.Stored) (p : Port) (r : Readiness) : (c.setReadiness p r).Stored :=
  { h with
    participants_range := by simpa [Cue.setReadiness] using h.participants_range
    ports_nodup := by
      have he : (c.setReadiness p r).participants.map (·.port) = c.participants.map (·.port) := by
        simp only [Cue.setReadiness, List.map_map]
        refine List.map_congr_left fun x _ => ?_
        simp only [Function.comp]
        split <;> rfl
      rw [he]; exact h.ports_nodup }

/-! ### Duties -/

/-- A COMMIT is owed after a duty only where it was owed before or is the duty (R118). -/
theorem mergeDuty_commit {duty : CueNotice} {owed : Option CueNotice} {asked : Bool}
    (h : mergeDuty duty owed asked = some .commit) : owed = some .commit ∨ duty = .commit := by
  cases duty with
  | commit => exact .inr rfl
  | prepare | defer | abort r =>
    cases owed with
    | none => cases h
    | some n => cases n <;> simp [mergeDuty] at h

theorem offer_commit {duty : CueNotice} {n : PortNotice} (h : (n.offer duty).owed = some .commit) :
    n.owed = some .commit ∨ duty = .commit := by
  unfold PortNotice.offer at h
  split at h
  · exact .inl h
  · exact mergeDuty_commit h

theorem offerTo_commit {duty : CueNotice} {dest : Port → Bool} {c : Cue} {p : Port}
    (h : (c.offerTo duty dest).notices[p].owed = some .commit) :
    c.notices[p].owed = some .commit ∨ duty = .commit ∧ dest p = true := by
  rw [offerTo_notices] at h
  split at h
  · next hd => exact (offer_commit h).imp id fun he => ⟨he, hd⟩
  · exact .inl h

/-- A duty to participants leaves notices owed to participants alone (R116). -/
theorem Cue.OnPorts.offerTo {c : Cue} (h : c.OnPorts) {duty : CueNotice} {dest : Port → Bool}
    (hd : ∀ p, dest p = true → c.hasPort p = true) : (c.offerTo duty dest).OnPorts := by
  rintro p (hp | hp)
  · exact h p (.inl hp)
  · rw [offerTo_notices] at hp
    split at hp
    · next hdest => exact hd p hdest
    · exact h p (.inr hp)

theorem Cue.Armed.offerTo {c : Cue} (h : c.Armed) {duty : CueNotice} {dest : Port → Bool}
    (hd : duty = .commit → ∀ p, dest p = true → inMask c.armed p = true) : (c.offerTo duty dest).Armed where
  some_armed := h.some_armed
  ready := h.ready
  commits p hp := by
    rcases offerTo_commit hp with hp | ⟨he, hp⟩
    · exact h.commits p hp
    · exact hd he p hp

theorem Cue.Asking.offerTo {c : Cue} (h : c.Asking) {duty : CueNotice} {dest : Port → Bool} (hd : duty ≠ .commit) :
    (c.offerTo duty dest).Asking where
  none_armed := h.none_armed
  asked := h.asked
  commits p hp := by
    rcases offerTo_commit hp with hp | ⟨he, _⟩
    · exact h.commits p hp
    · exact hd he

/-- A notice that is changed to one that owes what it owed or nothing (R117, R128). -/
theorem modifyAt_owed {v : Vector PortNotice 6} {p q : Port} {f : PortNotice → PortNotice} (hf : ∀ n, (f n).owed = none) :
    (modifyAt v p f)[q].owed = v[q].owed ∨ (modifyAt v p f)[q].owed = none := by
  rw [modifyAt_get]
  split
  · exact .inr (hf _)
  · exact .inl rfl

theorem sent_owed (n : PortNotice) : n.sent.owed = none := by
  unfold PortNotice.sent
  split
  all_goals first
    | rfl
    | assumption

theorem modifyAt_replicate {α : Type} {n : Nat} {x : α} {f : α → α} (hf : f x = x) (i : Fin n) :
    modifyAt (Vector.replicate n x) i f = Vector.replicate n x := by
  refine vector_ext_fin fun j => ?_
  rw [modifyAt_get]
  split <;> simp [hf]

/-- A cue whose notice on one port is changed by `f` (R117, R128). -/
def Cue.mapNotice (p : Port) (f : PortNotice → PortNotice) (c : Cue) : Cue :=
  { c with notices := modifyAt c.notices p f }

/-- A cue that owes one notice less keeps its law (R117, R128). -/
theorem Cue.Kept.mapNotice {c : Cue} (h : c.Kept) (p : Port) {f : PortNotice → PortNotice} (hf : ∀ n, (f n).owed = none)
    (hb : f .blank = .blank) : (c.mapNotice p f).Kept where
  stored := { h.stored with }
  inState := by
    have commit : ∀ q : Port, (c.mapNotice p f).notices[q].owed = some .commit → c.notices[q].owed = some .commit := by
      intro q hq
      rcases modifyAt_owed (v := c.notices) (p := p) (q := q) hf with he | he
      · exact he ▸ hq
      · exact absurd (he.symm.trans hq) (by simp)
    have armed : c.Armed → (c.mapNotice p f).Armed := fun ha =>
      ⟨ha.some_armed, ha.ready, fun q hq => ha.commits q (commit q hq)⟩
    cases hs : c.state with
    | waiting =>
      have hw := h.inState.waiting hs
      have hn : modifyAt c.notices p f = Vector.replicate 6 .blank := by rw [hw.notices]; exact modifyAt_replicate hb p
      exact Cue.Waiting.inState ⟨hw.none_armed, hw.not_asked, hn⟩ hs
    | asking =>
      have ha := h.inState.asking hs
      exact Cue.Asking.inState ⟨ha.none_armed, ha.asked, fun q hq => ha.commits q (commit q hq)⟩ hs
    | armed => exact (armed (h.inState.armed hs)).inState hs
    | taken => exact (armed (h.inState.taken hs).2).inState_taken hs (h.inState.taken hs).1
  onPorts q hq := by
    rcases hq with hq | hq
    · exact h.onPorts q (.inl hq)
    · rcases modifyAt_owed (v := c.notices) (p := p) (q := q) hf with he | he
      · exact h.onPorts q (.inr (he ▸ hq))
      · exact absurd he hq

/-! ### Transitions -/

/-- Nothing owed on any port (R116). -/
theorem blank_owed (p : Port) : (Vector.replicate 6 PortNotice.blank)[p].owed = none := by
  simp [PortNotice.blank]

/-- To ASKING from WAITING (R93, R94). -/
theorem Cue.Kept.ask {c : Cue} (h : c.Kept) (hs : c.state = .waiting) : c.ask.Kept := by
  have hw := h.inState.waiting hs
  have h0 : ({ c with state := .asking }.mapReadiness fun _ => .asked).Asking :=
    { none_armed := hw.none_armed
      asked := fun x hx => by
        obtain ⟨y, _, rfl⟩ := List.mem_map.1 hx
        simp
      commits := fun p hp => by
        have hn : c.notices[p].owed = none := by rw [hw.notices]; exact blank_owed p
        exact absurd (hn.symm.trans hp) (by simp) }
  exact
    { stored := { h.stored.mapReadiness fun _ => .asked with }
      inState := (h0.offerTo (by simp)).inState rfl
      onPorts := Cue.OnPorts.offerTo (fun p hp => by rw [hasPort_mapReadiness]; exact h.onPorts p hp)
        fun p hp => by rw [hasPort_mapReadiness]; exact hp }

@[simp] theorem ask_hasPort (c : Cue) (p : Port) : c.ask.hasPort p = c.hasPort p := by
  unfold Cue.ask
  rw [hasPort_offerTo, hasPort_mapReadiness]
  rfl

/-- The entry test of a WAITING record whose deadline lies ahead (R93). -/
theorem Cue.Kept.enter {c : Cue} (h : c.Kept) (hs : c.state = .waiting) {w : Frame} (hm : (c.margin : Int) < c.ahead w)
    (hh : c.ahead w ≤ horizon) : (c.enter w).Lawful w := by
  rcases enter_cases w c with ⟨hl, he⟩ | ⟨_, he⟩ <;> rw [he, Cue.lawful_iff]
  · rw [show { c with state := .waiting } = c by rw [← hs]]
    exact ⟨h, (onTime_waiting hs).2 ⟨hl, hh⟩⟩
  · exact ⟨h.ask hs, (onTime_asking rfl).2 ⟨hm, hh⟩⟩

@[simp] theorem enter_hasPort (w : Frame) (c : Cue) (p : Port) : (c.enter w).hasPort p = c.hasPort p := by
  rcases enter_cases w c with ⟨_, he⟩ | ⟨_, he⟩ <;> rw [he]
  · rfl
  · exact ask_hasPort c p

/-- To ARMED from ASKING, with a mask of participants that are READY (R99, R102). -/
theorem Cue.Kept.arm {c : Cue} (h : c.Kept) (hs : c.state = .asking) {mask : PortMask} (hne : mask ≠ 0)
    (hports : ∀ p, inMask mask p = true → c.hasPort p = true)
    (hready : ∀ x ∈ c.participants, inMask mask x.port = true → x.readiness = .ready) : (c.arm mask).Kept where
  stored := { h.stored with }
  inState := by
    refine Cue.Armed.inState ⟨hne, hready, fun p hp => ?_⟩ rfl
    rcases offerTo_commit hp with hp | ⟨he, _⟩
    · rcases offerTo_commit hp with hp | ⟨_, hd⟩
      · exact absurd hp ((h.inState.asking hs).commits p)
      · exact hd
    · cases he
  onPorts := by
    have h0 : { c with state := .armed, armed := mask }.OnPorts := by
      rintro p (hp | hp)
      · exact hports p hp
      · exact h.onPorts p (.inr hp)
    refine Cue.OnPorts.offerTo (h0.offerTo hports) fun p hp => ?_
    exact (Bool.and_eq_true _ _ ▸ hp).1

/-- A good participant is READY (R99). -/
theorem good_ready {status : Vector StepStatus 6} {x : Participant} (h : x.good status = true) : x.readiness = .ready := by
  simp only [Participant.good, Bool.and_eq_true, decide_eq_true_eq] at h
  exact h.1

theorem mask_ne_zero {mask : PortMask} {p : Port} (h : inMask mask p = true) : mask ≠ 0 := by
  rintro rfl
  simp [inMask] at h

/-- The deadline of a cue whose participants are all good arms them all (R99). -/
theorem Cue.Kept.armAll {c : Cue} (h : c.Kept) (hs : c.state = .asking) {status : Vector StepStatus 6}
    (hg : ∀ x ∈ c.participants, x.good status = true) : (c.arm c.portMask).Kept := by
  obtain ⟨x, hx⟩ := List.exists_mem_of_length_pos h.stored.participants_range.1
  refine h.arm hs (mask_ne_zero (p := x.port) ?_) (fun p hp => by simpa using hp) fun y hy _ => good_ready (hg y hy)
  rw [inMask_portMask]
  exact hasPort_of_mem hx

/-- A partial take arms the good participants, of which there is one (R102). -/
theorem Cue.Kept.armGood {c : Cue} (h : c.Kept) (hs : c.state = .asking) {status : Vector StepStatus 6}
    (hg : ∃ x ∈ c.participants, x.good status = true) : (c.arm (maskOf (c.goodPort status))).Kept := by
  have good : ∀ p, inMask (maskOf (c.goodPort status)) p = true ↔ ∃ x ∈ c.participants, x.port = p ∧ x.good status = true := by
    intro p
    simp [inMask_maskOf, Cue.goodPort]
  obtain ⟨x, hx, hxg⟩ := hg
  refine h.arm hs (mask_ne_zero ((good x.port).2 ⟨x, hx, rfl, hxg⟩)) (fun p hp => ?_) fun y hy hp => ?_
  · obtain ⟨z, hz, rfl, _⟩ := (good p).1 hp
    exact hasPort_of_mem hz
  · obtain ⟨z, hz, he, hzg⟩ := (good y.port).1 hp
    rw [← List.inj_on_of_nodup_map h.stored.ports_nodup hz hy he]
    exact good_ready hzg

/-- To TAKEN from ARMED, for a DIM cue (R106). -/
theorem Cue.Kept.take {c : Cue} (h : c.Kept) (hs : c.state = .armed) (ht : c.transition = .dim) :
    { c with state := .taken }.Kept where
  stored := { h.stored with }
  inState := Cue.Armed.inState_taken { h.inState.armed hs with } rfl ht
  onPorts := h.onPorts

theorem deferred_hasPort (c : Cue) (p : Port) : c.deferred.hasPort p = c.hasPort p := by
  unfold Cue.deferred
  rw [hasPort_offerTo, hasPort_mapReadiness]
  rfl

/-- A deferral with some of its budget left (R101). -/
theorem Cue.Kept.deferred {c : Cue} (h : c.Kept) (hs : c.state = .asking) (hb : c.deferralsUsed < c.maxDeferrals) :
    c.deferred.Kept where
  stored := by
    have h0 : { c with fire := c.deferredFire, deferralsUsed := c.deferralsUsed + 1 }.Stored :=
      { h.stored with deferrals_le := ⟨hb, h.stored.deferrals_le.2⟩ }
    exact { h0.mapReadiness Readiness.afterDeferral with }
  inState := by
    have ha := h.inState.asking hs
    have h0 : ({ c with fire := c.deferredFire, deferralsUsed := c.deferralsUsed + 1 }.mapReadiness
        Readiness.afterDeferral).Asking :=
      { none_armed := ha.none_armed
        asked := fun x hx => by
          obtain ⟨y, _, rfl⟩ := List.mem_map.1 hx
          cases y.readiness <;> simp [Readiness.afterDeferral]
        commits := ha.commits }
    exact (h0.offerTo (by simp)).inState hs
  onPorts := by
    refine Cue.OnPorts.offerTo (fun p hp => ?_) fun p hp => ?_
    · rw [hasPort_mapReadiness]; exact h.onPorts p hp
    · rw [hasPort_mapReadiness]; exact hp

theorem nextRepetition_hasPort (c : Cue) (f : Frame) (p : Port) : (c.nextRepetition f).hasPort p = c.hasPort p :=
  hasPort_mapReadiness (fun _ => .notAsked) c p

/-- The record of the next repetition before its entry test (R68). -/
theorem Cue.Kept.nextRepetition {c : Cue} (h : c.Kept) (f : Frame) : (c.nextRepetition f).Kept where
  stored :=
    { h.stored.mapReadiness fun _ => .notAsked with
      deferrals_le := ⟨Nat.zero_le _, h.stored.deferrals_le.2⟩
      repeatCount_le := by
        have := h.stored.repeatCount_le
        show nextCount c.repeatCount ≤ 65535
        unfold nextCount endlessCount
        split <;> omega }
  inState := by
    refine Cue.Waiting.inState ⟨rfl, fun x hx => ?_, rfl⟩ rfl
    obtain ⟨y, _, rfl⟩ := List.mem_map.1 hx
    rfl
  onPorts p hp := by
    rcases hp with hp | hp
    · exact absurd rfl (mask_ne_zero hp)
    · exact absurd (blank_owed p) hp

/-! ### Answers, sendings and port resets -/

/-- An answer taken for an ASKING cue (R96). -/
theorem Cue.Asking.setReadiness {c : Cue} (h : c.Asking) (p : Port) {r : Readiness} (hr : r ≠ .notAsked) :
    (c.setReadiness p r).Asking where
  none_armed := h.none_armed
  asked x hx := by
    obtain ⟨y, hy, rfl⟩ := List.mem_map.1 hx
    split
    · exact hr
    · exact h.asked y hy
  commits := h.commits

theorem Cue.Kept.setReadiness {c : Cue} (h : c.Kept) (hs : c.state = .asking) (p : Port) {r : Readiness}
    (hr : r ≠ .notAsked) : (c.setReadiness p r).Kept where
  stored := h.stored.setReadiness p r
  inState := ((h.inState.asking hs).setReadiness p hr).inState hs
  onPorts q hq := by rw [hasPort_setReadiness]; exact h.onPorts q hq

/-- The time of a cue whose state, fire frame and timing fields are kept. -/
theorem onTime_congr {w : Frame} {c d : Cue} (hs : d.state = c.state) (hf : d.fire = c.fire) (hlead : d.lead = c.lead)
    (hmargin : d.margin = c.margin) (hli : d.li = c.li) : d.OnTime w ↔ c.OnTime w := by
  simp only [Cue.OnTime, Cue.ahead, hs, hf, hlead, hmargin, hli]

theorem Cue.Lawful.setReadiness {w : Frame} {c : Cue} (h : c.Lawful w) (hs : c.state = .asking) (p : Port) {r : Readiness}
    (hr : r ≠ .notAsked) : (c.setReadiness p r).Lawful w := by
  rw [Cue.lawful_iff] at h ⊢
  exact ⟨h.1.setReadiness hs p hr, (onTime_congr rfl rfl rfl rfl rfl).2 h.2⟩

theorem Cue.Lawful.mapNotice {w : Frame} {c : Cue} (h : c.Lawful w) (p : Port) {f : PortNotice → PortNotice}
    (hf : ∀ n, (f n).owed = none) (hb : f .blank = .blank) : (c.mapNotice p f).Lawful w := by
  rw [Cue.lawful_iff] at h ⊢
  exact ⟨h.1.mapNotice p hf hb, (onTime_congr rfl rfl rfl rfl rfl).2 h.2⟩

/-- The sending of a cue notice (R117). -/
theorem Cue.Lawful.noticeSent {w : Frame} {c : Cue} (h : c.Lawful w) (p : Port) :
    { c with notices := modifyAt c.notices p PortNotice.sent }.Lawful w :=
  h.mapNotice p sent_owed rfl

theorem Cue.Lawful.clearOwed {w : Frame} {c : Cue} (h : c.Lawful w) (p : Port) : (c.clearOwed p).Lawful w :=
  h.mapNotice p (fun _ => rfl) rfl

/-- What a port reset keeps of a cue: its state, its place and its timing fields. -/
theorem cuePortReset_frame (p : Port) (c : Cue) :
    c.portReset p = { c with participants := (c.portReset p).participants, notices := (c.portReset p).notices } := by
  unfold Cue.portReset
  repeat' split
  all_goals rfl

@[simp] theorem portReset_hasPort (p : Port) (c : Cue) (q : Port) : (c.portReset p).hasPort q = c.hasPort q := by
  unfold Cue.portReset
  repeat' split
  · rfl
  · rw [hasPort_offerTo, hasPort_setReadiness]
  all_goals rfl

/-- What a port reset makes of an ARMED or TAKEN cue keeps what it holds: the COMMIT goes to an armed port alone (R113). -/
theorem Cue.Armed.portReset {c : Cue} (h : c.Armed) (hs : c.state = .armed ∨ c.state = .taken) (p : Port) :
    (c.portReset p).Armed := by
  by_cases hp : c.hasPort p = true
  · have he : c.portReset p
        = if inMask c.armed p then c.offerTo .commit (· == p) else c.offerTo (.abort .excluded) (· == p) := by
      rcases hs with hs | hs <;> simp [Cue.portReset, hp, hs]
    rw [he]
    split
    · next hm => exact h.offerTo fun _ q hq => by rw [beq_iff_eq.1 hq]; exact hm
    · exact h.offerTo (by simp)
  · have he : c.portReset p = c := by simp [Cue.portReset, hp]
    rw [he]; exact h

theorem Cue.Stored.portReset {c : Cue} (h : c.Stored) (p : Port) : (c.portReset p).Stored := by
  unfold Cue.portReset
  repeat' split
  · exact h
  · exact { h.setReadiness p .asked with }
  · exact { h with }
  · exact { h with }
  · exact { h with }
  · exact { h with }
  · exact h

theorem Cue.OnPorts.portReset {c : Cue} (h : c.OnPorts) (p : Port) : (c.portReset p).OnPorts := by
  unfold Cue.portReset
  split
  · next hp =>
    have honly : ∀ q : Port, (q == p) = true → c.hasPort q = true := fun q hq => by rw [beq_iff_eq.1 hq]; exact hp
    split
    · exact h
    · have h0 : (c.setReadiness p .asked).OnPorts := fun q hq => by rw [hasPort_setReadiness]; exact h q hq
      exact h0.offerTo fun q hq => by rw [hasPort_setReadiness]; exact honly q hq
    all_goals
      split
      · exact h.offerTo honly
      · exact h.offerTo honly
  · exact h

/-- A port reset keeps the law of a live cue (R113). -/
theorem Cue.Lawful.portReset {w : Frame} {c : Cue} (h : c.Lawful w) (p : Port) : (c.portReset p).Lawful w := by
  have hstate : (c.portReset p).state = c.state := by rw [cuePortReset_frame]
  have onTime : (c.portReset p).OnTime w := by
    rw [cuePortReset_frame]
    exact (onTime_congr rfl rfl rfl rfl rfl).2 h.onTime
  refine ⟨h.stored.portReset p, onTime, ?_, h.onPorts.portReset p⟩
  cases hs : c.state with
  | waiting =>
    have he : c.portReset p = c := by simp [Cue.portReset, hs]
    rw [he]; exact h.inState
  | asking =>
    by_cases hp : c.hasPort p = true
    · have he : c.portReset p = (c.setReadiness p .asked).offerTo .prepare (· == p) := by simp [Cue.portReset, hp, hs]
      rw [he]
      exact (((h.inState.asking hs).setReadiness p (by simp)).offerTo (by simp)).inState hs
    · have he : c.portReset p = c := by simp [Cue.portReset, hp]
      rw [he]; exact h.inState
  | armed => exact ((h.inState.armed hs).portReset (.inl hs) p).inState (hstate.trans hs)
  | taken =>
    have ht : (c.portReset p).transition = c.transition := by rw [cuePortReset_frame]
    exact ((h.inState.taken hs).2.portReset (.inr hs) p).inState_taken (hstate.trans hs) (ht.trans (h.inState.taken hs).1)

end Sys2Proof.Machine
end

section
/-! PROOFS. The law of the schedule (R53, R59, R63, R66, R92 to R111, R120): storing, removing and changing records, retirement
with repetition, and a strobe, which finds every cue due at most for the transition that it makes. -/

namespace Sys2Proof.Machine

/-! ### The table -/

/-- Where a live cue stands when W has just increased and the strobe has not examined it: its transition is not overdue (R95). -/
def Cue.Due (w : Frame) (c : Cue) : Prop :=
  match c.state with
  | .waiting => (c.lead : Int) ≤ c.ahead w ∧ c.ahead w < horizon
  | .asking => (c.margin : Int) ≤ c.ahead w ∧ c.ahead w < horizon
  | .armed => 0 ≤ c.ahead w ∧ c.ahead w < c.margin
  | .taken => -(c.li : Int) ≤ c.ahead w ∧ c.ahead w < 0

/-- The law of the table in the course of a strobe: the cues with an id in `due` are still to be examined. -/
structure TableLawful (w : Frame) (due : Byte → Prop) (l : List Cue) : Prop where
  places : l.length ≤ tablePlaces
  ids : (l.map (·.id)).Nodup
  fireOrder : l.Pairwise fun a b => a.before w b = true
  apart : l.Pairwise Cue.Apart
  kept : ∀ c ∈ l, c.Kept
  onTime : ∀ c ∈ l, ¬ due c.id → c.OnTime w
  isDue : ∀ c ∈ l, due c.id → c.Due w

theorem Schedule.lawful_iff (w : Frame) (s : Schedule) :
    s.Lawful w ↔ TableLawful w (fun _ => False) s.live ∧ s.outcomes.length ≤ listCap ∧ ∀ p : Port, s.aborts[p].length ≤ listCap := by
  constructor
  · intro h
    exact ⟨⟨h.places, h.ids, h.fireOrder, h.apart, fun c hc => ((Cue.lawful_iff w c).1 (h.cues c hc)).1,
      fun c hc _ => (h.cues c hc).onTime, fun c hc hd => hd.elim⟩, h.outcomes_le, h.aborts_le⟩
  · rintro ⟨h, ho, ha⟩
    exact ⟨h.places, h.ids, h.fireOrder, h.apart, fun c hc => (Cue.lawful_iff w c).2 ⟨h.kept c hc, h.onTime c hc id⟩, ho, ha⟩

theorem Cue.Apart.symm {a b : Cue} (h : a.Apart b) : b.Apart a :=
  fun hf p hp => h hf.symm p ⟨hp.2, hp.1⟩

theorem TableLawful.eq_of_id {w : Frame} {due : Byte → Prop} {l : List Cue} (h : TableLawful w due l) {c d : Cue} (hc : c ∈ l)
    (hd : d ∈ l) (he : d.id = c.id) : d = c :=
  List.inj_on_of_nodup_map h.ids hd hc he

/-- Two cues of the table do not clash (R63). -/
theorem TableLawful.apart_of_mem {w : Frame} {due : Byte → Prop} {l : List Cue} (h : TableLawful w due l) {c d : Cue} (hc : c ∈ l)
    (hd : d ∈ l) (he : d.id ≠ c.id) : c.Apart d :=
  have : Std.Symm Cue.Apart := ⟨fun _ _ hx => hx.symm⟩
  h.apart.forall hc hd fun e => he (e ▸ rfl)

/-- The cue that was to be examined has no transition to make. -/
theorem TableLawful.settle {w : Frame} {due due' : Byte → Prop} {l : List Cue} {id : Byte} (h : TableLawful w due l)
    (hdue : ∀ i, due' i ↔ due i ∧ i ≠ id) (hc : ∀ c ∈ l, c.id = id → c.OnTime w) : TableLawful w due' l :=
  { h with
    onTime := fun c hm hd => by
      by_cases he : c.id = id
      · exact hc c hm he
      · exact h.onTime c hm fun hd' => hd ((hdue _).2 ⟨hd', he⟩)
    isDue := fun c hm hd => h.isDue c hm ((hdue _).1 hd).1 }

/-- A record removed from the table. -/
theorem TableLawful.remove {w : Frame} {due due' : Byte → Prop} {l : List Cue} {id : Byte} (h : TableLawful w due l)
    (hdue : ∀ i, due' i ↔ due i ∧ i ≠ id) : TableLawful w due' (removeCue id l) := by
  have hsub := removeCue_sublist id l
  exact
    { places := hsub.length_le.trans h.places
      ids := h.ids.sublist (hsub.map _)
      fireOrder := h.fireOrder.sublist hsub
      apart := h.apart.sublist hsub
      kept := fun c hc => h.kept c (hsub.subset hc)
      onTime := fun c hc hd => h.onTime c (hsub.subset hc) fun hd' => hd ((hdue _).2 ⟨hd', ((mem_removeCue _ _ _).1 hc).2⟩)
      isDue := fun c hc hd => h.isDue c (hsub.subset hc) ((hdue _).1 hd).1 }

/-- A lawful record stored in a free place, with a new id and without a clash (R61). -/
theorem TableLawful.insert {w : Frame} {due : Byte → Prop} {l : List Cue} (h : TableLawful w due l) {c : Cue}
    (hc : c.Lawful w) (hplaces : l.length < tablePlaces) (hid : ∀ d ∈ l, d.id ≠ c.id) (hapart : ∀ d ∈ l, c.Apart d)
    (hdue : ¬ due c.id) : TableLawful w due (insertCue w c l) := by
  have hperm := insertCue_perm w c l
  obtain ⟨hk, ht⟩ := (Cue.lawful_iff w c).1 hc
  exact
    { places := by rw [length_insertCue]; exact hplaces
      ids := by
        rw [(hperm.map _).nodup_iff, List.map_cons, List.nodup_cons]
        refine ⟨fun hm => ?_, h.ids⟩
        obtain ⟨d, hd, he⟩ := List.mem_map.1 hm
        exact hid d hd he
      fireOrder := insertCue_sorted w c l h.fireOrder hid
      apart := (hperm.pairwise_iff Cue.Apart.symm).2 (List.pairwise_cons.2 ⟨hapart, h.apart⟩)
      kept := fun d hd => by
        rcases (mem_insertCue w c d l).1 hd with rfl | hd
        · exact hk
        · exact h.kept d hd
      onTime := fun d hd hn => by
        rcases (mem_insertCue w c d l).1 hd with rfl | hd
        · exact ht
        · exact h.onTime d hd hn
      isDue := fun d hd hn => by
        rcases (mem_insertCue w c d l).1 hd with rfl | hd
        · exact absurd hn hdue
        · exact h.isDue d hd hn }

theorem removeCue_length_lt {c : Cue} {l : List Cue} (hc : c ∈ l) : (removeCue c.id l).length < l.length :=
  List.length_filter_lt_length_iff_exists.2 ⟨c, hc, by simp⟩

/-- No clash in the table without the old record keeps the new record apart from the others (R63). -/
theorem apart_of_no_clash {l : List Cue} {c : Cue} {ports : Port → Bool} {f : Frame} (h : ¬ clashes l ports f = true)
    (hp : ∀ p, c.hasPort p = true → ports p = true) (hf : c.fire = f) : ∀ d ∈ l, c.Apart d := by
  intro d hd he p ⟨hcp, hdp⟩
  obtain ⟨x, hx, rfl⟩ := (hasPort_iff d p).1 hdp
  exact h ((clashes_iff l ports f).2 ⟨d, hd, he.symm.trans hf, x, hx, hp _ hcp⟩)

/-- A changed record in the place of the old one, at the same fire frame with the same ports. -/
theorem TableLawful.replace {w : Frame} {due due' : Byte → Prop} {l : List Cue} (h : TableLawful w due l) {c d : Cue}
    (hdue : ∀ i, due' i ↔ due i ∧ i ≠ c.id) (hc : c ∈ l) (hd : d.Lawful w) (hid : d.id = c.id)
    (hapart : ∀ x ∈ removeCue c.id l, d.Apart x) : TableLawful w due' (insertCue w d (removeCue d.id l)) := by
  rw [hid]
  exact (h.remove hdue).insert hd (Nat.lt_of_lt_of_le (removeCue_length_lt hc) h.places)
    (fun x hx => by rw [hid]; exact ((mem_removeCue _ _ _).1 hx).2) hapart fun hn => ((hdue _).1 hn).2 hid

/-- A record that keeps its fire frame and its ports stays apart from the others. -/
theorem TableLawful.still_apart {w : Frame} {due : Byte → Prop} {l : List Cue} (h : TableLawful w due l) {c d : Cue} (hc : c ∈ l)
    (hf : d.fire = c.fire) (hp : ∀ p, d.hasPort p = c.hasPort p) : ∀ x ∈ removeCue c.id l, d.Apart x := by
  intro x hx he p hpp
  obtain ⟨hx, hne⟩ := (mem_removeCue _ _ _).1 hx
  rw [hp, hf] at *
  exact h.apart_of_mem hc hx hne he p hpp

/-- Every record changed where it stands, its id, fire frame and ports being kept. -/
theorem TableLawful.map {w : Frame} {l : List Cue} (h : TableLawful w (fun _ => False) l) {f : Cue → Cue}
    (hid : ∀ c, (f c).id = c.id) (hf : ∀ c, (f c).fire = c.fire) (hp : ∀ c p, (f c).hasPort p = c.hasPort p)
    (hl : ∀ c ∈ l, c.Lawful w → (f c).Lawful w) : TableLawful w (fun _ => False) (l.map f) := by
  have lawful : ∀ c ∈ l, (f c).Lawful w := fun c hc => hl c hc ((Cue.lawful_iff w c).2 ⟨h.kept c hc, h.onTime c hc id⟩)
  have hm : ∀ {P : Cue → Prop}, (∀ c ∈ l, P (f c)) → ∀ d ∈ l.map f, P d := fun hP d hd => by
    obtain ⟨c, hc, rfl⟩ := List.mem_map.1 hd
    exact hP c hc
  exact
    { places := by rw [List.length_map]; exact h.places
      ids := by simpa [Function.comp_def, hid] using h.ids
      fireOrder := List.pairwise_map.2 (h.fireOrder.imp fun {a b} hab => by
        rw [before_iff] at hab ⊢
        simpa only [Cue.ahead, hid, hf] using hab)
      apart := List.pairwise_map.2 (h.apart.imp fun {a b} hab he p hpp => by
        rw [hf, hf] at he
        rw [hp, hp] at hpp
        exact hab he p hpp)
      kept := hm fun c hc => ((Cue.lawful_iff w _).1 (lawful c hc)).1
      onTime := hm fun c hc _ => (lawful c hc).onTime
      isDue := fun d _ hd => hd.elim }

/-! ### The lists of outcomes and retired ABORTs -/

/-- The lengths of the schedule's lists (R66, R120). -/
structure Schedule.ListsLawful (s : Schedule) : Prop where
  outcomes_le : s.outcomes.length ≤ listCap
  aborts_le : ∀ p : Port, s.aborts[p].length ≤ listCap

theorem Schedule.ListsLawful.retire {s : Schedule} (h : s.ListsLawful) (w : Frame) (c : Cue) (outcome : CueOutcome)
    (duty : Port → Option AbortReason) : (s.retire w c outcome duty).ListsLawful where
  outcomes_le := appendCapped_length _ _
  aborts_le p := by
    rw [retire_aborts]
    split
    · exact appendCapped_length _ _
    · exact h.aborts_le p

/-! ### Retirement -/

/-- A retirement repeats a taken cue with a repeat interval, at a fire frame without a clash (R68, R110). -/
theorem continuation_rescheduled {l : List Cue} {taken : Bool} {c : Cue} {f : Frame}
    (h : c.continuation l taken = .rescheduled f) :
    taken = true ∧ ∃ i, c.repeatInterval = some i ∧ f = c.nextFire i ∧ ¬ clashes l c.hasPort f = true := by
  unfold Cue.continuation at h
  split at h
  · next ht =>
    split at h
    · cases h
    · next i hi =>
      split at h
      · cases h
      · split at h
        · cases h
        · next hc => cases h; exact ⟨ht, i, hi, rfl, hc⟩
  · cases h

/-- A repeat interval from the take of a CUT cue, or from the end of the fade-in of a DIM cue, leaves the next deadline ahead
(R58, R80). -/
def Cue.RepeatsAhead (w : Frame) (c : Cue) : Prop :=
  -horizon ≤ c.ahead w ∧ c.ahead w ≤ 0 ∧ ∀ i ∈ c.repeatInterval, (c.margin : Int) < c.ahead w + i

/-- A retirement keeps the law of the table (R108, R110). -/
theorem TableLawful.retire {w : Frame} {due due' : Byte → Prop} {s : Schedule} (h : TableLawful w due s.live) {c : Cue}
    (hdue : ∀ i, due' i ↔ due i ∧ i ≠ c.id) (hc : c ∈ s.live) {outcome : CueOutcome}
    (ht : outcome.isTake = true → c.RepeatsAhead w) (duty : Port → Option AbortReason) :
    TableLawful w due' (s.retire w c outcome duty).live := by
  rcases retire_live w c outcome duty s with he | ⟨f, hf, he⟩ <;> rw [he]
  · exact h.remove hdue
  · obtain ⟨htake, i, hi, rfl, hclash⟩ := continuation_rescheduled hf
    obtain ⟨hlo, hhi, hmargin⟩ := ht htake
    have hk := h.kept c hc
    have hbound := hk.stored.interval_range i hi
    have hahead : (c.nextRepetition (c.nextFire i)).ahead w = c.ahead w + i :=
      ahead_add rfl hbound.2 hlo (hhi.trans (by simp [horizon]))
    have hlawful := (hk.nextRepetition (c.nextFire i)).enter rfl (w := w) (by rw [hahead]; exact hmargin i hi)
      (by rw [hahead]; have := hbound.2; omega)
    refine (h.remove hdue).insert hlawful (Nat.lt_of_lt_of_le (removeCue_length_lt hc) h.places) (fun d hd => ?_)
      (apart_of_no_clash hclash (fun p hp => ?_) (by simp [Cue.nextRepetition])) fun hn => ?_
    · simpa using ((mem_removeCue _ _ _).1 hd).2
    · rw [enter_hasPort, nextRepetition_hasPort] at hp; exact hp
    · exact ((hdue _).1 hn).2 (by simp)

/-! ### The examination of one cue -/

/-- A deferral or its DEFER_CLASH keeps the law (R101). -/
theorem TableLawful.deferCue {w : Frame} {due due' : Byte → Prop} {s : Schedule} (h : TableLawful w due s.live) {c : Cue}
    (hdue : ∀ i, due' i ↔ due i ∧ i ≠ c.id) (hc : c ∈ s.live) (hs : c.state = .asking) (ha : c.ahead w = c.margin)
    (hb : c.deferralsUsed < c.maxDeferrals) : TableLawful w due' (s.deferCue w c).live := by
  unfold Schedule.deferCue
  split
  · exact h.retire hdue hc (fun he => by cases he) _
  · next hclash =>
    have hk := h.kept c hc
    have hstep := hk.stored.deferStep_range
    have hlt := hk.stored.margin_lt
    have hlead := hk.stored.lead_le
    have hmax : maxLead = 4095 := rfl
    have hhor : horizon = 1073741824 := rfl
    have hahead : c.deferred.ahead w = c.ahead w + c.deferStep := ahead_add rfl (by omega) (by omega) (by omega)
    have hlawful : c.deferred.Lawful w := (Cue.lawful_iff w _).2 ⟨hk.deferred hs hb,
      (onTime_asking (c := c.deferred) hs).2 ⟨by show (c.margin : Int) < c.deferred.ahead w; omega, by omega⟩⟩
    exact h.replace hdue hc hlawful rfl
      (apart_of_no_clash hclash (fun p hp => by rw [deferred_hasPort] at hp; exact hp) rfl)

/-- A deadline keeps the law (R99 to R103). -/
theorem TableLawful.deadline {w : Frame} {due due' : Byte → Prop} {s : Schedule} (h : TableLawful w due s.live) {c : Cue}
    (hdue : ∀ i, due' i ↔ due i ∧ i ≠ c.id) (hc : c ∈ s.live) (hs : c.state = .asking) (ha : c.ahead w = c.margin)
    (status : Vector StepStatus 6) : TableLawful w due' (s.deadline w status c).live := by
  have hk := h.kept c hc
  have arm : ∀ mask, (c.arm mask).Kept → TableLawful w due' (s.putCue w (c.arm mask)).live := fun mask hm => by
    have hpos := hk.stored.margin_pos
    refine h.replace hdue hc ((Cue.lawful_iff w _).2 ⟨hm, (onTime_armed rfl).2 ?_⟩) rfl (h.still_apart hc rfl fun _ => rfl)
    show 0 < c.ahead w ∧ c.ahead w ≤ c.margin
    omega
  rcases deadline_cases w status c s with ⟨hg, he⟩ | ⟨_, hb, he⟩ | ⟨_, hg, he⟩ | he <;> rw [he]
  · exact arm _ (hk.armAll hs hg)
  · exact h.deferCue hdue hc hs ha hb
  · exact arm _ (hk.armGood hs hg)
  · exact h.retire hdue hc (fun he => by cases he) _

/-- A take keeps the law (R106). -/
theorem TableLawful.takeCue {w : Frame} {due due' : Byte → Prop} {s : Schedule} (h : TableLawful w due s.live) {c : Cue}
    (hdue : ∀ i, due' i ↔ due i ∧ i ≠ c.id) (hc : c ∈ s.live) (hs : c.state = .armed) (ha : c.ahead w = 0) :
    TableLawful w due' (s.takeCue w c).live := by
  have hk := h.kept c hc
  unfold Schedule.takeCue
  split
  · next ht =>
    refine h.retire (s := s.assertTake c.armed) hdue hc (fun _ => ⟨by simp [ha, horizon], by omega, fun i hi => ?_⟩) _
    have := (hk.stored.interval_range i hi).1
    simp only [Cue.intervalFloor, ht] at this
    omega
  · next ht =>
    have hli := hk.stored.li_range
    refine h.replace hdue hc ((Cue.lawful_iff w _).2 ⟨hk.take hs ht, (onTime_taken rfl).2 ?_⟩) rfl (h.still_apart hc rfl fun _ => rfl)
    show -(c.li : Int) < c.ahead w ∧ c.ahead w ≤ 0
    omega

/-- The examination of a cue that is due keeps the law (R95). -/
theorem TableLawful.examine {w : Frame} {due due' : Byte → Prop} {s : Schedule} (h : TableLawful w due s.live) {c : Cue}
    (hdue : ∀ i, due' i ↔ due i ∧ i ≠ c.id) (hc : c ∈ s.live) (hcd : due c.id) (status : Vector StepStatus 6) :
    TableLawful w due' (s.examine w status c).live := by
  have hk := h.kept c hc
  have hd := h.isDue c hc hcd
  have rest : c.OnTime w → TableLawful w due' s.live := fun ht =>
    h.settle hdue fun d hm he => h.eq_of_id hc hm he ▸ ht
  unfold Schedule.examine
  cases hs : c.state with
  | waiting =>
    simp only [Cue.Due, hs] at hd
    dsimp only
    split
    · next ha =>
      have hlt := hk.stored.margin_lt
      refine h.replace hdue hc ((Cue.lawful_iff w _).2 ⟨hk.ask hs, (onTime_asking rfl).2 ?_⟩) rfl
        (h.still_apart hc rfl (ask_hasPort c))
      show (c.margin : Int) < c.ahead w ∧ c.ahead w ≤ horizon
      omega
    · exact rest ((onTime_waiting hs).2 (by omega))
  | asking =>
    simp only [Cue.Due, hs] at hd
    dsimp only
    split
    · next ha => exact h.deadline hdue hc hs ha status
    · exact rest ((onTime_asking hs).2 (by omega))
  | armed =>
    simp only [Cue.Due, hs] at hd
    dsimp only
    split
    · next ha => exact h.takeCue hdue hc hs ha
    · exact rest ((onTime_armed hs).2 (by omega))
  | taken =>
    simp only [Cue.Due, hs] at hd
    dsimp only
    split
    · next ha =>
      have hli := hk.stored.li_range
      refine h.retire hdue hc (fun _ => ⟨by simp [horizon]; omega, by omega, fun i hi => ?_⟩) _
      have := (hk.stored.interval_range i hi).1
      simp only [Cue.intervalFloor, (hk.inState.taken hs).1] at this
      omega
    · exact rest ((onTime_taken hs).2 (by omega))

theorem Schedule.ListsLawful.examine {s : Schedule} (h : s.ListsLawful) (w : Frame) (status : Vector StepStatus 6) (c : Cue) :
    (s.examine w status c).ListsLawful := by
  have put : ∀ d, (s.putCue w d).ListsLawful := fun _ => ⟨h.outcomes_le, h.aborts_le⟩
  have assert : ∀ mask, (s.assertTake mask).ListsLawful := fun _ => ⟨h.outcomes_le, h.aborts_le⟩
  rcases examine_cases w status c s with he | ⟨_, _, he⟩ | ⟨_, _, he⟩ | ⟨_, _, he⟩ | ⟨_, _, he⟩ <;> rw [he]
  · exact h
  · exact put _
  · rcases deadline_cases w status c s with ⟨_, he⟩ | ⟨_, _, he⟩ | ⟨_, _, he⟩ | he <;> rw [he]
    · exact put _
    · unfold Schedule.deferCue
      split
      · exact h.retire _ _ _ _
      · exact put _
    · exact put _
    · exact h.retire _ _ _ _
  · unfold Schedule.takeCue
    split
    · exact (assert c.armed).retire _ _ _ _
    · exact ⟨h.outcomes_le, h.aborts_le⟩
  · exact h.retire _ _ _ _

/-! ### A strobe -/

/-- The examination of the cues one after the other, each with its id in the table once (R95). -/
theorem examineAll_lawful {w : Frame} (status : Nat → Vector StepStatus 6) (cues : List (Cue × Nat)) :
    ∀ {s : Schedule}, (cues.map (·.1.id)).Nodup → TableLawful w (· ∈ cues.map (·.1.id)) s.live → s.ListsLawful →
      (s.examineAll w status cues).Lawful w := by
  induction cues with
  | nil =>
    intro s _ h hl
    refine (Schedule.lawful_iff w s).2 ⟨?_, hl.outcomes_le, hl.aborts_le⟩
    simpa using h
  | cons x cues ih =>
    intro s hn h hl
    rw [List.map_cons, List.nodup_cons] at hn
    rw [List.map_cons] at h
    have hdue : ∀ i, i ∈ cues.map (·.1.id) ↔ i ∈ x.1.id :: cues.map (·.1.id) ∧ i ≠ x.1.id := by
      intro i
      rw [List.mem_cons]
      constructor
      · intro hi
        exact ⟨.inr hi, fun he => hn.1 (he ▸ hi)⟩
      · rintro ⟨hi | hi, hne⟩
        · exact absurd hi hne
        · exact hi
    rw [examineAll_cons]
    unfold Schedule.examineId
    cases hf : findCue x.1.id s.live with
    | none => exact ih hn.2 (h.settle hdue fun c hc he => absurd he (findCue_none.1 hf c hc)) hl
    | some c =>
      obtain ⟨hc, hid⟩ := findCue_mem hf
      exact ih hn.2 (h.examine (by rw [hid]; exact hdue) hc (by rw [hid]; exact List.mem_cons_self) _) (hl.examine _ _ _)

theorem Cue.OnTime.ahead_range {w : Frame} {c : Cue} (ht : c.OnTime w) (hk : c.Stored) : -horizon < c.ahead w := by
  have h1 := hk.li_range
  have h5 : horizon = 1073741824 := rfl
  unfold Cue.OnTime at ht
  split at ht <;> omega

/-- With W one more, fire minus W of a live cue is one less (R7). -/
theorem Cue.Lawful.ahead_succ {w : Frame} {c : Cue} (h : c.Lawful w) : c.ahead (w + 1) = c.ahead w - 1 := by
  have hr := h.onTime.ahead_range h.stored
  have h5 : horizon = 1073741824 := rfl
  unfold Cue.ahead at *
  exact frameDiff_succ (by omega)

/-- With W one more, no transition of a live cue is overdue. -/
theorem Cue.Lawful.due_succ {w : Frame} {c : Cue} (h : c.Lawful w) : c.Due (w + 1) := by
  have hs := h.ahead_succ
  have ht := h.onTime
  unfold Cue.OnTime at ht
  unfold Cue.Due
  cases hst : c.state <;> simp only [hst] at ht ⊢ <;> omega

/-- A strobe keeps the law of the schedule, at the W that it counts (R59, R95). -/
theorem Schedule.Lawful.strobe {w : Frame} {s : Schedule} (h : s.Lawful w) (status : Nat → Vector StepStatus 6) :
    (s.strobe (w + 1) status).Lawful (w + 1) := by
  have hids : s.live.zipIdx.map (·.1.id) = s.live.map (·.id) := by
    rw [← Function.comp_def (fun c : Cue => c.id) Prod.fst, ← List.map_map, List.zipIdx_map_fst]
  refine examineAll_lawful status s.live.zipIdx (by rw [hids]; exact h.ids) ?_ ⟨h.outcomes_le, h.aborts_le⟩
  rw [hids]
  exact
    { places := h.places
      ids := h.ids
      fireOrder := h.fireOrder.imp_of_mem fun {a b} ha hb hab => by
        rw [before_iff] at hab ⊢
        rw [(h.cues a ha).ahead_succ, (h.cues b hb).ahead_succ]
        omega
      apart := h.apart
      kept := fun c hc => ((Cue.lawful_iff w c).1 (h.cues c hc)).1
      onTime := fun c hc hn => absurd (List.mem_map_of_mem hc) hn
      isDue := fun c hc _ => (h.cues c hc).due_succ }

theorem Schedule.reset_lawful (w : Frame) : Schedule.reset.Lawful w where
  places := Nat.zero_le _
  ids := List.nodup_nil
  fireOrder := .nil
  apart := .nil
  cues c hc := by cases hc
  outcomes_le := Nat.zero_le _
  aborts_le p := by simp [Schedule.reset]

end Sys2Proof.Machine
end

section
/-! PROOFS. The law of the schedule outside strobes: records changed where they stand, port resets, drops, and the record that
an accepted CUE_PUT stores (R54 to R62, R79, R80). -/

namespace Sys2Proof.Machine

/-! ### Records changed where they stand -/

theorem Schedule.Lawful.table {w : Frame} {s : Schedule} (h : s.Lawful w) : TableLawful w (fun _ => False) s.live :=
  ((Schedule.lawful_iff w s).1 h).1

/-- A record changed under its id, its place in fire order and its ports being kept. -/
theorem Schedule.Lawful.updateCue {w : Frame} {s : Schedule} (h : s.Lawful w) {id : Byte} {f : Cue → Cue}
    (hid : ∀ c, (f c).id = c.id) (hf : ∀ c, (f c).fire = c.fire) (hp : ∀ c p, (f c).hasPort p = c.hasPort p)
    (hl : ∀ c ∈ s.live, c.id = id → c.Lawful w → (f c).Lawful w) : (s.updateCue id f).Lawful w := by
  refine (Schedule.lawful_iff w _).2 ⟨h.table.map (fun c => ?_) (fun c => ?_) (fun c p => ?_) fun c hc hlc => ?_,
    h.outcomes_le, h.aborts_le⟩
  · split
    · exact hid c
    · rfl
  · split
    · exact hf c
    · rfl
  · split
    · exact hp c p
    · rfl
  · split
    · next he => exact hl c hc (by simpa using he) hlc
    · exact hlc

/-- The sending of a cue notice (R117, R124). -/
theorem Schedule.Lawful.noticeSent {w : Frame} {s : Schedule} (h : s.Lawful w) (p : Port) (id : Byte) :
    (s.updateCue id fun c => { c with notices := modifyAt c.notices p PortNotice.sent }).Lawful w :=
  h.updateCue (fun _ => rfl) (fun _ => rfl) (fun _ _ => rfl) fun _ _ _ hc => hc.noticeSent p

/-- An answer taken (R96). -/
theorem Schedule.Lawful.answer {w : Frame} {s : Schedule} (h : s.Lawful w) {p : Port} {id : Byte} {entry : Cue → Readiness}
    (ht : s.takesAnswer id p = true) (he : ∀ c, entry c ≠ .notAsked) :
    (s.updateCue id fun c => c.setReadiness p (entry c)).Lawful w := by
  refine h.updateCue (fun _ => rfl) (fun _ => rfl) (fun c q => hasPort_setReadiness p (entry c) c q) fun c hc hid hl => ?_
  refine hl.setReadiness ?_ p (he c)
  unfold Schedule.takesAnswer at ht
  split at ht
  · next d hd =>
    obtain ⟨hm, hdid⟩ := findCue_mem hd
    rw [h.table.eq_of_id hm hc (hid.trans hdid.symm)]
    simp only [Bool.and_eq_true, decide_eq_true_eq] at ht
    exact ht.1
  · cases ht

/-- A port reset (R113, R128). -/
theorem Schedule.Lawful.portReset {w : Frame} {s : Schedule} (h : s.Lawful w) (p : Port) : (s.portReset p).Lawful w := by
  refine (Schedule.lawful_iff w _).2 ⟨h.table.map (fun c => ?_) (fun c => ?_) (fun c q => ?_)
    (fun c _ hc => (hc.clearOwed p).portReset p), h.outcomes_le, fun q => ?_⟩
  · rw [cuePortReset_frame]; rfl
  · rw [cuePortReset_frame]; rfl
  · rw [portReset_hasPort]; rfl
  · simp only [Schedule.portReset, modifyAt_get]
    split
    · exact Nat.zero_le _
    · exact h.aborts_le q

/-- The oldest retired ABORT of a port is sent (R120). -/
theorem Schedule.Lawful.abortSent {w : Frame} {s : Schedule} (h : s.Lawful w) (p : Port) :
    { s with aborts := modifyAt s.aborts p List.tail }.Lawful w :=
  { h with
    aborts_le := fun q => by
      simp only [modifyAt_get]
      have := h.aborts_le q
      split
      · rw [List.length_tail]; omega
      · exact this }

/-- A live cue is dropped (R111). -/
theorem Schedule.Lawful.drop {w : Frame} {s : Schedule} (h : s.Lawful w) {c : Cue} (hc : c ∈ s.live)
    (duty : Port → Option AbortReason) : (s.retire w c .dropped duty).Lawful w := by
  have hl : s.ListsLawful := ⟨h.outcomes_le, h.aborts_le⟩
  refine (Schedule.lawful_iff w _).2 ⟨?_, (hl.retire w c .dropped duty).outcomes_le, (hl.retire w c .dropped duty).aborts_le⟩
  have hsettled := h.table.retire (due' := fun i => False ∧ i ≠ c.id) (fun _ => Iff.rfl) hc (outcome := .dropped)
    (fun ht => by cases ht) duty
  simpa using hsettled

/-! ### The record of a CUE_PUT -/

/-- Participant entries with legal ports become participants, one for one (R80). -/
theorem participants_ports {l : List (Nat × Token)} (h : ∀ e ∈ l, e.1 ≤ 5) :
    (l.filterMap participantOf).map (·.port.val) = l.map (·.1) := by
  induction l with
  | nil => rfl
  | cons e l ih =>
    have he : participantOf e = some ⟨⟨e.1, Nat.lt_succ_of_le (h e List.mem_cons_self)⟩, e.2, .notAsked⟩ := by
      simp [participantOf, portOf, Nat.lt_succ_of_le (h e List.mem_cons_self)]
    rw [List.filterMap_cons_some he, List.map_cons, List.map_cons, ih fun x hx => h x (List.mem_cons_of_mem _ hx)]

theorem entries_length (m : Message) : m.entries.length = min (m.num 25) 6 := by
  simp [Message.entries]

theorem entriesOk_iff (m : Message) : m.entriesOk = true ↔ 1 ≤ m.num 25 ∧ m.num 25 ≤ 6 ∧ (∀ e ∈ m.entries, e.1 ≤ 5)
    ∧ (m.entries.map (·.1)).Nodup := by
  simp [Message.entriesOk, and_assoc]

theorem storedFade_range (n : Nat) : 1 ≤ storedFade n ∧ storedFade n ≤ 32 :=
  clampNat_range (by decide) n

/-- Lead and margin as stored: the margin stays above what its raise gave, and below the lead (R57). -/
theorem storedLeadMargin_range {lead margin lo : Nat} (hm : lo ≤ margin) (hlo : lo ≤ 33) (hpos : 1 ≤ margin) :
    lo ≤ (storedLeadMargin lead margin).2 ∧ 1 ≤ (storedLeadMargin lead margin).2
      ∧ (storedLeadMargin lead margin).2 + 1 ≤ (storedLeadMargin lead margin).1
      ∧ (storedLeadMargin lead margin).1 ≤ maxLead := by
  have hmax : maxLead = 4095 := rfl
  simp only [storedLeadMargin]
  split <;> omega

theorem raisedMargin_range (t : Transition) (lo margin : Nat) :
    1 ≤ raisedMargin t lo margin ∧ (t = .dim → lo + 1 ≤ raisedMargin t lo margin) := by
  cases t with
  | cut => exact ⟨Nat.le_max_right _ _, fun h => by cases h⟩
  | dim =>
    have := Nat.le_max_right margin (lo + 1)
    exact ⟨by simp only [raisedMargin]; omega, fun _ => this⟩

/-- The record of a put without a fault has its values in their ranges (R54, R57, R58, R80). -/
theorem cueOf_stored {m : Message} {t : Transition} {policy : Policy} (he : m.entriesOk = true)
    (hi : (m.cueOf t policy).intervalOk = true) : (m.cueOf t policy).Stored := by
  obtain ⟨hn, hn6, hports, hnodup⟩ := (entriesOk_iff m).1 he
  have hlo := storedFade_range (m.num 9)
  obtain ⟨hpos, hdim⟩ := raisedMargin_range t (storedFade (m.num 9)) (m.num2 13)
  obtain ⟨-, hm1, hml, hlead⟩ := storedLeadMargin_range (lead := m.num2 11) hpos (by omega) hpos
  have hmap := participants_ports hports
  have hstep := num2_le m 16
  exact
    { lo_range := hlo
      li_range := storedFade_range _
      margin_pos := hm1
      margin_dim := fun ht => (storedLeadMargin_range (hdim ht) (by omega) hpos).1
      margin_lt := hml
      lead_le := hlead
      deferStep_range := by
        simp only [Message.cueOf, storedDeferStep]
        split <;> omega
      deferrals_le := ⟨Nat.zero_le _, Nat.min_le_right _ _⟩
      interval_range := fun i hri => by
        simp only [Cue.intervalOk, Option.mem_def.1 hri, Bool.and_eq_true, decide_eq_true_eq] at hi
        exact hi
      repeatCount_le := num2_le m 23
      participants_range := by
        have hlen : (m.cueOf t policy).participants.length = m.entries.length := by
          have hlen := congrArg List.length hmap
          rwa [List.length_map, List.length_map] at hlen
        rw [hlen, entries_length]
        omega
      ports_nodup := by
        refine List.Nodup.of_map (fun p : Port => p.val) ?_
        rw [List.map_map]
        show (List.map (fun x : Participant => x.port.val) (m.entries.filterMap participantOf)).Nodup
        rw [hmap]
        exact hnodup }

/-- The record of a put is WAITING, with nothing asked, armed or owed (R61, R116). -/
theorem cueOf_kept {m : Message} {t : Transition} {policy : Policy} (h : (m.cueOf t policy).Stored) :
    (m.cueOf t policy).Kept where
  stored := h
  inState := by
    refine Cue.Waiting.inState ⟨rfl, fun x hx => ?_, rfl⟩ rfl
    obtain ⟨e, _, he⟩ := List.mem_filterMap.1 hx
    obtain ⟨p, _, rfl⟩ := Option.map_eq_some_iff.1 he
    rfl
  onPorts p hp := by
    rcases hp with hp | hp
    · exact absurd rfl (mask_ne_zero hp)
    · exact absurd (blank_owed p) hp

/-- A put record that passes the BAD_FIELD check (R80). -/
theorem putRecord_kept {w : Frame} {m : Message} {c : Cue} (h : Message.putRecord w m = some c) :
    c.Kept ∧ c.state = .waiting ∧ c.ahead w < horizon := by
  unfold Message.putRecord at h
  split at h
  · dsimp only at h
    split at h
    · next hok =>
      cases h
      simp only [Bool.and_eq_true, decide_eq_true_eq] at hok
      obtain ⟨⟨⟨he, -⟩, hh⟩, hi⟩ := hok
      exact ⟨cueOf_kept (cueOf_stored he hi), rfl, hh⟩
    · cases h
  · cases h

/-- What an accepted put has passed (R79). -/
theorem cuePutOutcome_accepted {p : Port} {m : Message} {s : State} (h : cuePutOutcome p m s = .accepted) :
    s.wtb.state ≠ .unset ∧ ∃ c, Message.putRecord s.wtb.w m = some c ∧ (c.margin : Int) < c.ahead s.wtb.w
      ∧ ¬ clashes (removeCue c.id s.sched.live) c.hasPort c.fire = true
      ∧ ¬ ((findCue c.id s.sched.live).isNone = true ∧ tablePlaces ≤ s.sched.live.length) := by
  unfold cuePutOutcome at h
  split at h
  · cases h
  next hset =>
  split at h
  · cases h
  split at h
  · cases h
  next c hc =>
  split at h
  · cases h
  split at h
  · cases h
  next hmargin =>
  split at h
  · cases h
  next hclash =>
  split at h
  · cases h
  next hplace =>
  exact ⟨hset, c, hc, not_not.1 hmargin, hclash, by simpa using hplace⟩

/-- The record of an accepted put is stored, or replaces the record of its id (R61, R62, R93). -/
theorem Schedule.Lawful.put {w : Frame} {s : Schedule} (h : s.Lawful w) {c : Cue} (hk : c.Kept) (hs : c.state = .waiting)
    (hm : (c.margin : Int) < c.ahead w) (hh : c.ahead w < horizon) (hclash : ¬ clashes (removeCue c.id s.live) c.hasPort c.fire = true)
    (hplace : ¬ ((findCue c.id s.live).isNone = true ∧ tablePlaces ≤ s.live.length)) : (s.putCue w (c.enter w)).Lawful w := by
  have hrest : TableLawful w (fun _ => False) (removeCue c.id s.live) := by
    simpa using h.table.remove (due' := fun i => False ∧ i ≠ c.id) (fun _ => Iff.rfl)
  have hlt : (removeCue c.id s.live).length < tablePlaces := by
    cases hf : findCue c.id s.live with
    | none =>
      have hle := (removeCue_sublist c.id s.live).length_le
      have hfree : ¬ tablePlaces ≤ s.live.length := fun hle => hplace ⟨by rw [hf]; rfl, hle⟩
      omega
    | some d =>
      obtain ⟨hd, hid⟩ := findCue_mem hf
      rw [← hid]
      exact Nat.lt_of_lt_of_le (removeCue_length_lt hd) h.places
  refine (Schedule.lawful_iff w _).2 ⟨?_, h.outcomes_le, h.aborts_le⟩
  rw [Schedule.putCue, enter_id]
  exact hrest.insert (hk.enter hs hm (Int.le_of_lt hh)) hlt (fun d hd => by rw [enter_id]; exact ((mem_removeCue _ _ _).1 hd).2)
    (apart_of_no_clash hclash (fun p hp => by rw [enter_hasPort] at hp; exact hp) (enter_fire w c)) id

end Sys2Proof.Machine
end

section
/-! PROOFS. The laws of the whole part: what each block's change asks of them, the arbiter and the completion of an edit, the
starts of messages, and every command. -/

namespace Sys2Proof.Machine

/-! ### One block changed -/

theorem State.Lawful.setPending {s : State} (h : s.Lawful) (queue : List Instr) : { s with pending := queue }.Lawful :=
  { h with joined := { h.joined with } }

theorem State.Lawful.setFreeCount {s : State} (h : s.Lawful) (k : Nat) : { s with freeCount := k }.Lawful :=
  { h with joined := { h.joined with } }

theorem State.Lawful.setComposers {s : State} (h : s.Lawful) (v : Vector Composer 6) : { s with composers := v }.Lawful :=
  { h with joined := { h.joined with } }

/-- The timebase changed, with W kept, and UNSET exactly where it was. -/
theorem State.Lawful.setWtb {s : State} (h : s.Lawful) {t : Wtb} (ht : t.Lawful) (hw : t.w = s.wtb.w)
    (hu : t.state = .unset ↔ s.wtb.state = .unset) : { s with wtb := t }.Lawful :=
  { h with
    wtb := ht
    sched := by show s.sched.Lawful t.w; rw [hw]; exact h.sched
    joined := { h.joined with
      unset_empty := fun hs => h.joined.unset_empty (hu.1 hs)
      loading := fun begun hb => ⟨hu.2 (h.joined.loading begun hb).1, (h.joined.loading begun hb).2⟩ } }

theorem State.Lawful.setGlitch {s : State} (h : s.Lawful) (g : Bool) : { s with wtb := { s.wtb with glitch := g } }.Lawful :=
  h.setWtb (h.wtb.setGlitch g) rfl Iff.rfl

theorem State.Lawful.setAmbient {s : State} (h : s.Lawful) {a : Ambient} (ha : a.Lawful) : { s with ambient := a }.Lawful :=
  { h with ambient := ha, joined := { h.joined with } }

theorem State.Lawful.setDimmer {s : State} (h : s.Lawful) {d : Dimmer} (hd : d.Lawful) : { s with dimmer := d }.Lawful :=
  { h with dimmer := hd, joined := { h.joined with } }

/-- The phase watch of a port changed, with the STEP that it makes owed (R136). -/
theorem State.Lawful.setWatch {s : State} (h : s.Lawful) (p : Port) {e : EchoWatch} (he : e.Lawful) : (s.setWatch p e).Lawful :=
  { h with
    watch := fun q => by
      simp only [State.setWatch, set_get]
      split
      · exact he
      · exact h.watch q
    joined := { h.joined with } }

/-- The schedule changed under a running timebase, or not in its live cues. -/
theorem State.Lawful.setSched {s : State} (h : s.Lawful) {c : Schedule} (hc : c.Lawful s.wtb.w)
    (he : s.wtb.state = .unset → s.sched.live = [] → c.live = []) : { s with sched := c }.Lawful :=
  { h with
    sched := hc
    joined := { h.joined with unset_empty := fun hs => he hs (h.joined.unset_empty hs) } }

/-- The link of a port changed: the holding slot filled by nothing new, a stopped receiver not started. -/
theorem State.Lawful.modifyLink {s : State} (h : s.Lawful) (p : Port) {f : Link → Link} (hl : (f s.links[p]).Lawful)
    (hh : (f s.links[p]).holding.isSome = true → s.links[p].holding.isSome = true)
    (hr : s.links[p].receiver = .stopped → (f s.links[p]).receiver = .stopped) : (s.modifyLink p f).Lawful :=
  { h with
    links := fun q => by
      rw [modifyLink_get]
      split
      · next hq => subst hq; exact hl
      · exact h.links q
    joined := { h.joined with
      holding_full := fun q hq => by
        rw [modifyLink_get] at hq
        split at hq
        · next he => subst he; exact h.joined.holding_full q (hh hq)
        · exact h.joined.holding_full q hq
      loading := fun begun hb => by
        obtain ⟨hw, he, hs, hstop⟩ := h.joined.loading begun hb
        refine ⟨hw, he, hs, fun q => ?_⟩
        rw [modifyLink_get]
        split
        · next hq => subst hq; exact hr (hstop q)
        · exact hstop q } }

/-- A port whose receiver runs is past the load (R36). -/
theorem State.Lawful.loaded_of_receiver {s : State} (h : s.Lawful) {p : Port} (hr : s.links[p].receiver ≠ .stopped) (begun : Bool) :
    s.page.state ≠ .loading begun :=
  fun hb => hr ((h.joined.loading begun hb).2.2.2 p)

theorem State.Lawful.loaded_of_busy {s : State} (h : s.Lawful) (hb : s.eu.state ≠ .idle) (begun : Bool) :
    s.page.state ≠ .loading begun :=
  fun hl => hb (h.joined.loading begun hl).2.1

/-- The running settings of a lawful part are legal settings (R165). -/
theorem settings_lawful {s : State} (hw : s.wtb.Lawful) (he : ∀ p : Port, s.eu.permits[p].Lawful)
    (hecho : ∀ p : Port, s.watch[p].Lawful) (hd : s.dimmer.Lawful) : s.settings.Lawful where
  timebase := hw.timebase
  common := hw.common
  echo p := by simp only [State.settings, mapAt_get]; exact (hecho p).tolerance_le
  zones z := by simp only [State.settings, mapAt_get]; exact (hd.zones z).config
  permits := he

/-! ### The arbiter -/

/-- The laws of the part before a waiting edit moves up and the arbiter looks at the slots (R27, R75): an edit may wait behind a
slot of the port `freed` that is EMPTY now, and an IDLE unit may have left an edit QUEUED. -/
structure State.BeforeArbiter (freed : Option Port) (s : State) : Prop where
  wtb : s.wtb.Lawful
  links : ∀ p : Port, s.links[p].Lawful
  eu : s.eu.Stocked
  sched : s.sched.Lawful s.wtb.w
  watch : ∀ p : Port, s.watch[p].Lawful
  ambient : s.ambient.Lawful
  dimmer : s.dimmer.Lawful
  page : s.page.Lawful
  holding_full : ∀ p : Port, freed ≠ some p → s.links[p].holding.isSome = true → s.eu.slots[p].length = slotCount
  storing_iff : s.eu.state = .storing ↔ ∃ phase snapshot, s.page.state = .saving phase snapshot
  unset_empty : s.wtb.state = .unset → s.sched.live = []
  loading : s.LoadingStill

/-- A part whose arbiter has nothing to do. -/
theorem State.BeforeArbiter.served {s : State} (h : s.BeforeArbiter none)
    (hi : s.eu.state = .idle → ∀ p : Port, ∀ x ∈ s.eu.slots[p], x.status ≠ .queued) : s.Lawful :=
  { h with
    eu := (EditUnit.lawful_iff _).2 ⟨h.eu, hi⟩
    joined := { h with holding_full := fun p => h.holding_full p (by simp) } }

theorem sum_activeCount_modifyAt (slots : Vector (List EditSlot) 6) (p : Port) (f : List EditSlot → List EditSlot) :
    (∑ q : Port, activeCount (modifyAt slots p f)[q]) + activeCount slots[p] =
      (∑ q : Port, activeCount slots[q]) + activeCount (f slots[p]) :=
  sum_modifyAt slots p f activeCount

/-- The unit that has taken the head of a port, in the state that its edit calls for (R75, R88). -/
theorem stocked_take {eu : EditUnit} (h : eu.Stocked) (hi : eu.state = .idle) {p : Port} {slot : EditSlot}
    (hs : headOf eu.slots[p] = some slot) {state : EuState} (hstate : state ≠ .idle)
    (hsave : state = .storing → Message.kind slot.edit = some .save) :
    { eu with slots := modifyAt eu.slots p activateHead, pointer := p + 1, state := state }.Stocked where
  slots q := by
    simp only [modifyAt_get]
    split
    · exact (h.slots q).activateHead
    · exact h.slots q
  active_count := by
    have hsum := sum_activeCount_modifyAt eu.slots p activateHead
    have hcount := h.active_count
    rw [if_pos hi] at hcount
    rw [activeCount_activateHead hs] at hsum
    rw [if_neg hstate]
    show ∑ q : Port, activeCount (modifyAt eu.slots p activateHead)[q] = 1
    omega
  storing_save hst q x hx hactive := by
    simp only [modifyAt_get] at hx
    split at hx
    · next hq =>
      subst hq
      rcases mem_activateHead hx with hx | ⟨slot', hs', _, rfl⟩
      · exact absurd hactive (h.no_active hi q x hx)
      · obtain rfl : slot' = slot := Option.some.inj (hs'.symm.trans hs)
        exact hsave hst
    · exact absurd hactive (h.no_active hi q x hx)
  permits := h.permits

/-- The arbiter restores the laws of the whole part (R74, R75, R88, R166). -/
theorem State.BeforeArbiter.arbitrate {s : State} (h : s.BeforeArbiter none) : s.arbitrate.Lawful := by
  by_cases hi : s.eu.state = .idle
  · cases hn : s.eu.nextPort with
    | none =>
      have he : s.arbitrate = s := by simp [State.arbitrate, hi, hn]
      rw [he]
      exact h.served fun _ p => nextPort_none hn p
    | some p =>
      obtain ⟨slot, hs⟩ := nextPort_some hn
      have hloaded : ∀ begun, s.page.state ≠ .loading begun := fun begun hb => by
        rw [(h.loading begun hb).2.2.1 p] at hs
        cases hs
      have hlen : ∀ q : Port, (modifyAt s.eu.slots p activateHead)[q].length = s.eu.slots[q].length := fun q => by
        rw [modifyAt_get]
        split
        · exact activateHead_length _
        · rfl
      have hfull : ∀ q : Port, s.links[q].holding.isSome = true →
          (modifyAt s.eu.slots p activateHead)[q].length = slotCount := fun q hq => by
        rw [hlen]; exact h.holding_full q (by simp) hq
      cases hsave : s.eu.startsSave p slot with
      | true =>
        have hkind : Message.kind slot.edit = some .save := by
          simp only [EditUnit.startsSave, Bool.and_eq_true, decide_eq_true_eq] at hsave
          exact hsave.1
        have he : s.arbitrate = { s with
            eu := { s.eu with slots := modifyAt s.eu.slots p activateHead, pointer := p + 1, state := .storing }
            page := s.page.beginSave s.settings } := by
          simp only [State.arbitrate, if_pos hi, hn, hs, hsave, if_true]
        rw [he]
        refine State.BeforeArbiter.served
          { h with
            eu := stocked_take h.eu hi hs (by simp) fun _ => hkind
            page := h.page.beginSave (settings_lawful h.wtb h.eu.permits h.watch h.dimmer)
            holding_full := fun q _ hq => hfull q hq
            storing_iff := ⟨fun _ => ⟨_, _, rfl⟩, fun _ => rfl⟩
            loading := fun begun hb => by cases hb } fun hidle => by cases hidle
      | false =>
        have he : s.arbitrate = { s with
            eu := { s.eu with slots := modifyAt s.eu.slots p activateHead, pointer := p + 1, state := .working } } := by
          simp only [State.arbitrate, if_pos hi, hn, hs, hsave, Bool.false_eq_true, if_false]
        have hidle : ¬ s.eu.state = .storing := by simp [hi]
        rw [he]
        refine State.BeforeArbiter.served
          { h with
            eu := stocked_take h.eu hi hs (by simp) fun hst => by cases hst
            holding_full := fun q _ hq => hfull q hq
            storing_iff := ⟨fun hst => (by cases hst), fun hsv => absurd (h.storing_iff.2 hsv) hidle⟩
            loading := fun begun hb => absurd hb (hloaded begun) } fun hidle => by cases hidle
  · rw [arbitrate_busy s hi]
    exact h.served fun hi' => absurd hi' hi

/-- The slots of one port changed, with as many ACTIVE ones as before, each with the edit of one before. -/
theorem EditUnit.Stocked.modifySlots {eu : EditUnit} (h : eu.Stocked) (p : Port) {f : List EditSlot → List EditSlot}
    (hf : SlotsLawful (f eu.slots[p])) (hc : activeCount (f eu.slots[p]) = activeCount eu.slots[p])
    (hm : ∀ x ∈ f eu.slots[p], x.isActive = true → ∃ y ∈ eu.slots[p], y.isActive = true ∧ y.edit = x.edit) :
    { eu with slots := modifyAt eu.slots p f }.Stocked where
  slots q := by
    simp only [modifyAt_get]
    split
    · next hq => subst hq; exact hf
    · exact h.slots q
  active_count := by
    have hsum := sum_activeCount_modifyAt eu.slots p f
    have hcount := h.active_count
    rw [hc] at hsum
    show ∑ q : Port, activeCount (modifyAt eu.slots p f)[q] = if eu.state = .idle then 0 else 1
    omega
  storing_save hst q x hx hactive := by
    simp only [modifyAt_get] at hx
    split at hx
    · next hq =>
      subst hq
      obtain ⟨y, hy, hya, hye⟩ := hm x hx hactive
      rw [← hye]
      exact h.storing_save hst q y hy hya
    · exact h.storing_save hst q x hx hactive
  permits := h.permits

theorem EditUnit.Stocked.enqueue {eu : EditUnit} (h : eu.Stocked) {p : Port} (hl : eu.slots[p].length < slotCount) {m : Message}
    {k : RequestKind} (hk : Message.kind m = some k) (he : k.isEdit = true) :
    { eu with slots := modifyAt eu.slots p (enqueue m) }.Stocked := by
  refine h.modifySlots p ((h.slots p).enqueue hl hk he) (activeCount_enqueue m _) fun x hx hactive => ?_
  rcases List.mem_append.1 hx with hx | hx
  · exact ⟨x, hx, hactive, rfl⟩
  · obtain rfl := List.mem_singleton.1 hx
    simp [EditSlot.isActive] at hactive

/-- A waiting edit moves up behind a freed slot (R27). -/
theorem State.BeforeArbiter.refill {s : State} {p : Port} (h : s.BeforeArbiter (some p)) : (s.refill p).BeforeArbiter none := by
  have other : ∀ {q : Port}, q ≠ p → (some p : Option Port) ≠ some q := fun hq he => hq (Option.some.inj he).symm
  cases hm : s.links[p].holding with
  | none =>
    have he : s.refill p = s := by simp only [State.refill, hm]
    rw [he]
    refine { h with holding_full := fun q _ hq => ?_ }
    by_cases hqp : q = p
    · subst hqp; rw [hm] at hq; cases hq
    · exact h.holding_full q (other hqp) hq
  | some m =>
    by_cases hl : s.eu.slots[p].length < slotCount
    · have he : s.refill p = (s.modifySlots p (enqueue m)).modifyLink p fun l => { l with holding := none } := by
        simp only [State.refill, hm, if_pos hl]
      obtain ⟨k, hk, hedit⟩ := (h.links p).holding_edit m hm
      have hrun : s.links[p].receiver ≠ .stopped := fun hs => by
        rw [((h.links p).stopped_still hs).2.1] at hm; cases hm
      rw [he]
      exact { h with
        links := fun q => by
          rw [modifyLink_get]
          split
          · next hq => subst hq; exact (h.links q).clearHolding
          · exact h.links q
        eu := h.eu.enqueue hl hk hedit
        holding_full := fun q _ hq => by
          rw [modifyLink_get] at hq
          split at hq
          · cases hq
          · next hqp =>
            rw [modifyLink_eu, modifySlots_get, if_neg hqp]
            exact h.holding_full q (other hqp) hq
        loading := fun begun hb => absurd ((h.loading begun hb).2.2.2 p) hrun }
    · have he : s.refill p = s := by simp only [State.refill, hm, if_neg hl]
      rw [he]
      refine { h with holding_full := fun q _ hq => ?_ }
      by_cases hqp : q = p
      · subst hqp
        have := (h.eu.slots q).length_le
        omega
      · exact h.holding_full q (other hqp) hq

/-- A lawful part as the arbiter finds it. -/
theorem State.Lawful.beforeArbiter {s : State} (h : s.Lawful) (freed : Option Port) : s.BeforeArbiter freed :=
  { h with
    eu := ((EditUnit.lawful_iff _).1 h.eu).1
    holding_full := fun p _ => h.joined.holding_full p
    storing_iff := h.joined.storing_iff
    unset_empty := h.joined.unset_empty
    loading := h.joined.loading }

/-- The slots of one port changed before the arbiter, with the room that they leave. -/
theorem State.Lawful.freeSlot {s : State} (h : s.Lawful) (p : Port) {f : List EditSlot → List EditSlot} {state : EuState}
    (hstocked : { s.eu with slots := modifyAt s.eu.slots p f, state := state }.Stocked)
    (hstoring : state = .storing ↔ ∃ phase snapshot, s.page.state = .saving phase snapshot)
    (hloading : ∀ begun, s.page.state = .loading begun → state = .idle ∧ f [] = []) :
    { s with eu := { s.eu with slots := modifyAt s.eu.slots p f, state := state } }.BeforeArbiter (some p) :=
  { h.beforeArbiter (some p) with
    eu := hstocked
    holding_full := fun q hqp hq => by
      have hqp' : q ≠ p := fun he => hqp (he ▸ rfl)
      show (modifyAt s.eu.slots p f)[q].length = slotCount
      rw [modifyAt_other _ hqp']
      exact h.joined.holding_full q hq
    storing_iff := hstoring
    loading := fun begun hb => by
      obtain ⟨hw, -, hs, hr⟩ := h.joined.loading begun hb
      obtain ⟨hi, hf⟩ := hloading begun hb
      refine ⟨hw, hi, fun q => ?_, hr⟩
      show (modifyAt s.eu.slots p f)[q] = []
      rw [modifyAt_get]
      split
      · rw [hs q, hf]
      · exact hs q }

/-- The completion of the edit that is being worked on (R27, R73, R74, R89). -/
theorem State.Lawful.finishEdit {s : State} (h : s.Lawful) (hw : s.eu.state = .working) {p : Port} {slot : EditSlot}
    (ha : s.eu.active = some (p, slot)) (outcome : EditOutcome) : (s.finishEdit p outcome).Lawful := by
  have hst := ((EditUnit.lawful_iff _).1 h.eu).1
  obtain ⟨hmem, hactive⟩ := active_mem ha
  have hpos : 0 < activeCount s.eu.slots[p] := List.countP_pos_iff.2 ⟨slot, hmem, hactive⟩
  have hnosave : ¬ ∃ phase snapshot, s.page.state = .saving phase snapshot := fun hsv => by
    have := h.joined.storing_iff.2 hsv
    rw [hw] at this; cases this
  refine (State.BeforeArbiter.refill (h.freeSlot p (f := List.filterMap (finishSlot outcome)) (state := .idle) ?_ ?_ ?_)).arbitrate
  · exact
      { slots := fun q => by
          simp only [modifyAt_get]
          split
          · exact (hst.slots q).filterMap fun _ _ => finishSlot_keeps
          · exact hst.slots q
        active_count := by
          have hsum := sum_activeCount_modifyAt s.eu.slots p (List.filterMap (finishSlot outcome))
          have hcount := hst.active_count
          rw [activeCount_finish] at hsum
          rw [if_neg (by simp [hw])] at hcount
          rw [if_pos rfl]
          show ∑ q : Port, activeCount (modifyAt s.eu.slots p (List.filterMap (finishSlot outcome)))[q] = 0
          omega
        storing_save := fun hs => by cases hs
        permits := hst.permits }
  · exact ⟨fun hs => (by cases hs), fun hsv => absurd hsv hnosave⟩
  · exact fun begun hb => absurd hb (h.loaded_of_busy (by simp [hw]) begun)

/-- A slot that is DONE and sent is EMPTY (R73, R123). -/
theorem State.Lawful.dropDone {s : State} (h : s.Lawful) (p : Port) :
    (((s.modifySlots p dropFirstDone).refill p).arbitrate).Lawful := by
  have hst := ((EditUnit.lawful_iff _).1 h.eu).1
  refine (State.BeforeArbiter.refill (h.freeSlot p (f := dropFirstDone) (state := s.eu.state) ?_ h.joined.storing_iff ?_)).arbitrate
  · exact hst.modifySlots p ((hst.slots p).sublist (dropFirstDone_sublist _)) (activeCount_dropFirstDone _)
      fun x hx hactive => ⟨x, (dropFirstDone_sublist _).subset hx, hactive, rfl⟩
  · exact fun begun hb => ⟨(h.joined.loading begun hb).2.1, rfl⟩

/-- An edit placed in an EMPTY slot, or waiting behind two occupied ones (R26, R27). -/
theorem State.Lawful.placeEdit {s : State} (h : s.Lawful) {p : Port} (hr : s.links[p].receiver ≠ .stopped) {m : Message}
    {k : RequestKind} (hk : Message.kind m = some k) (he : k.isEdit = true) : (s.placeEdit p m).Lawful := by
  have hst := ((EditUnit.lawful_iff _).1 h.eu).1
  unfold State.placeEdit
  split
  · next hl =>
    refine State.BeforeArbiter.arbitrate { h.beforeArbiter none with
      eu := hst.enqueue hl hk he
      holding_full := fun q _ hq => ?_
      loading := fun begun hb => absurd hb (h.loaded_of_receiver hr begun) }
    rw [modifySlots_get]
    split
    · next hqp =>
      subst hqp
      have := h.joined.holding_full q hq
      omega
    · exact h.joined.holding_full q hq
  · next hl =>
    have hfull : s.eu.slots[p].length = slotCount := Nat.le_antisymm (hst.slots p).length_le (Nat.not_lt.1 hl)
    exact { h with
      links := fun q => by
        rw [modifyLink_get]
        split
        · next hq => subst hq; exact (h.links q).setHolding hr hk he
        · exact h.links q
      joined := { h.joined with
        holding_full := fun q hq => by
          rw [modifyLink_get] at hq
          split at hq
          · next hqp => subst hqp; exact hfull
          · exact h.joined.holding_full q hq
        loading := fun begun hb => absurd hb (h.loaded_of_receiver hr begun) } }

end Sys2Proof.Machine
end

section
/-! PROOFS. The starts of messages, the characters that arrive, port resets and the completions of edits keep the laws of the
whole part. -/

namespace Sys2Proof.Machine

/-! ### Starts of messages -/

theorem State.Lawful.transmit {s : State} (h : s.Lawful) (p : Port) (kind : Byte) (rest : List Byte) :
    (s.transmit p kind rest).Lawful :=
  h.modifyLink p ((h.links p).setTx fun _ hw => by cases hw) id id

theorem State.Lawful.cueNoticeSent {s : State} (h : s.Lawful) (p : Port) (id : Byte) : (s.cueNoticeSent p id).Lawful :=
  h.setSched (h.sched.noticeSent p id) fun _ he => by simp [Schedule.updateCue, he]

theorem State.Lawful.retiredAbortSent {s : State} (h : s.Lawful) (p : Port) : (s.retiredAbortSent p).Lawful :=
  h.setSched (h.sched.abortSent p) fun _ he => he

/-- The flags that a report clears (R46, R127). -/
theorem State.Lawful.reportEffects {s : State} (h : s.Lawful) (subject : Option Subject) : (s.reportEffects subject).Lawful := by
  unfold State.reportEffects
  split
  · next q => exact (h.modifyLink q (f := fun l => { l with flags := .clear }) (h.links q).clearFlags id id).setFreeCount _
  · exact (h.setGlitch false).setAmbient (h.ambient.setOverrun false)
  all_goals exact h

/-- The start of a message (R31, R124). -/
theorem State.Lawful.send {s : State} (h : s.Lawful) (p : Port) (x : Choice) : (s.send p x).Lawful := by
  cases x with
  | commit c | liveAbort c r | defer c | prepare c => exact (h.cueNoticeSent p c.id).transmit p _ _
  | retiredAbort a => exact (h.retiredAbortSent p).transmit p _ _
  | step => exact (h.setComposers _).transmit p _ _
  | editResult slot outcome => exact (h.transmit p _ _).dropDone p
  | report subject index => exact ((h.reportEffects _).setComposers _).transmit p _ _

theorem State.Lawful.startOn {s : State} (h : s.Lawful) (p : Port) : (s.startOn p).Lawful := by
  rcases startOn_cases p s with ⟨_, he⟩ | ⟨x, _, he⟩ <;> rw [he]
  · exact h
  · exact h.send p x

theorem State.Lawful.startDue {s : State} (h : s.Lawful) : s.startDue.Lawful :=
  startDue_induction (P := State.Lawful) (fun p _ hu => hu.startOn p) h

theorem State.Lawful.atMoment {s : State} (h : s.Lawful) (m : Moment) : (s.atMoment m).Lawful := by
  cases m with
  | together => exact h
  | later => exact h.startDue

/-- An event whose effect keeps the laws keeps them, whatever starts come before it. -/
theorem State.Lawful.event {s t : State} (h : s.Lawful) {m : Moment} {f : State → State} (he : s.event m f = .next t)
    (hf : ∀ u : State, u.Lawful → (f u).Lawful) : t.Lawful := by
  cases he
  exact hf _ (h.atMoment m)

/-! ### What arrives at a port, and its transmitter -/

/-- A change of a port that touches neither its holding slot nor its receiver. -/
theorem State.Lawful.lineChange {s : State} (h : s.Lawful) (p : Port) {f : Link → Link} (hl : (f s.links[p]).Lawful)
    (hh : (f s.links[p]).holding = s.links[p].holding) (hr : (f s.links[p]).receiver = s.links[p].receiver) :
    (s.modifyLink p f).Lawful :=
  h.modifyLink p hl (fun hs => hh ▸ hs) fun hs => hr.trans hs

theorem State.Lawful.stopBitEnd {s : State} (h : s.Lawful) (p : Port) : (s.modifyLink p Link.stopBitEnd).Lawful :=
  h.lineChange p (h.links p).stopBitEnd (by rw [stopBitEnd_frame]) (by rw [stopBitEnd_frame])

theorem State.Lawful.messageEnd {s : State} (h : s.Lawful) (p : Port) : (s.modifyLink p Link.messageEnd).Lawful :=
  h.lineChange p (h.links p).messageEnd (by rw [messageEnd_frame]) (by rw [messageEnd_frame])

theorem State.Lawful.ctsChange {s : State} (h : s.Lawful) (p : Port) (level : Bool) :
    (s.modifyLink p (Link.ctsChange level)).Lawful :=
  h.lineChange p ((h.links p).ctsChange level) (by rw [ctsChange_frame]) (by rw [ctsChange_frame])

theorem State.Lawful.returnToMark {s : State} (h : s.Lawful) (p : Port) : (s.modifyLink p Link.returnToMark).Lawful :=
  h.modifyLink p (h.links p).returnToMark id (returnToMark_stopped _).1.2

/-- An answer (R96, R98). -/
theorem State.Lawful.answer {s : State} (h : s.Lawful) {p : Port} (hr : s.links[p].receiver ≠ .stopped) (id : Byte)
    {entry : Cue → Readiness} (hentry : ∀ c, entry c ≠ .notAsked) : (s.answer p id entry).Lawful := by
  rcases answer_cases p id entry s with ⟨ht, he⟩ | ⟨_, he⟩ | he <;> rw [he]
  · exact h.setSched (h.sched.answer ht hentry) fun _ hl => by simp [Schedule.updateCue, hl]
  · exact h.lineChange p ((h.links p).setFlags hr _) rfl rfl
  · exact h

theorem dispatch_edit {p : Port} {m : Message} {k : RequestKind} (hk : Message.kind m = some k) (he : k.isEdit = true) (s : State) :
    s.dispatch p m = s.placeEdit p m := by
  unfold State.dispatch
  rw [hk]
  cases k <;> first | rfl | cases he

/-- A message goes to its block (R26). -/
theorem State.Lawful.dispatch {s : State} (h : s.Lawful) {p : Port} (hr : s.links[p].receiver ≠ .stopped) (m : Message) :
    (s.dispatch p m).Lawful := by
  cases hk : Message.kind m with
  | none =>
    have he : s.dispatch p m = s := by unfold State.dispatch; rw [hk]
    rw [he]; exact h
  | some k =>
    by_cases hedit : k.isEdit = true
    · rw [dispatch_edit hk hedit]
      exact h.placeEdit hr hk hedit
    · unfold State.dispatch
      rw [hk]
      cases k with
      | ready => exact h.answer hr _ fun c => by unfold Cue.readyEntry; split <;> simp
      | unready => exact h.answer hr _ fun c => by simp
      | query => exact h.setComposers _
      | cuePut | cueDrop | zoneSet | wallSet | phaseSet | permit | lock | save => exact absurd rfl hedit

/-- A character arrives (R21 to R26). -/
theorem State.Lawful.receive {s : State} (h : s.Lawful) (p : Port) (ch : LineChar) : (s.receive p ch).Lawful := by
  obtain ⟨hh, hr, hm⟩ := link_receive_keeps ch s.links[p]
  have ht : (s.modifyLink p fun _ => (s.links[p].receive ch).1).Lawful :=
    h.modifyLink p ((h.links p).receive ch) (fun hs => hh ▸ hs) hr
  unfold State.receive
  dsimp only
  split
  · exact ht
  · next m hdone =>
    have hrun : (s.modifyLink p fun _ => (s.links[p].receive ch).1).links[p].receiver ≠ .stopped := by
      rw [modifyLink_get, if_pos rfl, hm m hdone]
      decide
    rcases deliver_cases p m (s.modifyLink p fun _ => (s.links[p].receive ch).1) with ⟨_, he⟩ | ⟨_, he⟩
    · exact he ▸ ht.lineChange p ((ht.links p).setFlags hrun _) rfl rfl
    · exact he ▸ ht.dispatch hrun m

/-! ### Port reset -/

theorem resetSlot_active {x y : EditSlot} (h : resetSlot x = some y) :
    y.status = .active true ∧ x.isActive = true := by
  unfold resetSlot at h
  split at h <;> cases h
  next orphan hs => exact ⟨rfl, (isActive_iff x).2 ⟨orphan, hs⟩⟩

/-- The edit unit at a port reset (R89): nothing QUEUED remains, the ACTIVE slot is orphaned. -/
theorem EditUnit.Lawful.portReset {eu : EditUnit} (h : eu.Lawful) (p : Port) :
    { eu with slots := modifyAt eu.slots p (List.filterMap resetSlot) }.Lawful := by
  obtain ⟨hst, hserved⟩ := (EditUnit.lawful_iff _).1 h
  refine (EditUnit.lawful_iff _).2 ⟨hst.modifySlots p ((hst.slots p).filterMap fun _ _ => resetSlot_keeps) (activeCount_reset _)
    fun x hx _ => ?_, fun hi q x hx => ?_⟩
  · obtain ⟨y, hy, hyx⟩ := List.mem_filterMap.1 hx
    exact ⟨y, hy, (resetSlot_active hyx).2, (resetSlot_keeps hyx).2.symm⟩
  · simp only [modifyAt_get] at hx
    split at hx
    · obtain ⟨y, _, hyx⟩ := List.mem_filterMap.1 hx
      rw [(resetSlot_active hyx).1]
      simp
    · exact hserved hi q x hx

/-- A port reset (R33, R34) of a port whose break detector runs. -/
theorem State.Lawful.portReset {s : State} (h : s.Lawful) {p : Port} (hd : s.links[p].detector ≠ .stopped) :
    (s.portReset p).Lawful := by
  have hrun : s.links[p].receiver ≠ .stopped := fun hs => hd ((h.links p).stopped_iff.1 hs)
  have hcleared : { s with
      links := modifyAt s.links p Link.portReset
      composers := s.composers.set p ⟨false, none⟩
      sched := s.sched.portReset p
      eu := { s.eu with slots := modifyAt s.eu.slots p fun l => l.filterMap resetSlot } }.Lawful :=
    { h with
      links := fun q => by
        simp only [modifyAt_get]
        split
        · exact (h.links q).portReset
        · exact h.links q
      eu := h.eu.portReset p
      sched := h.sched.portReset p
      joined := { h.joined with
        holding_full := fun q hq => by
          simp only [modifyAt_get] at hq ⊢
          split at hq
          · cases hq
          · next hqp => rw [if_neg hqp]; exact h.joined.holding_full q hq
        unset_empty := fun hu => by simp [Schedule.portReset, h.joined.unset_empty hu]
        loading := fun begun hb => absurd hb (h.loaded_of_receiver hrun begun) } }
  exact hcleared.setWatch p (EchoWatch.fresh_lawful (h.watch p).tolerance_le)

/-! ### What accepted edits do -/

theorem active_congr {a b : EditUnit} (h : a.slots = b.slots) : a.active = b.active := by
  unfold EditUnit.active
  rw [h]

/-- What an ACCEPTED edit does leaves the edit unit at work on the same edit. -/
def KeepsWork (apply : Port → Message → State → State) : Prop :=
  ∀ p m s, (apply p m s).eu.state = s.eu.state ∧ (apply p m s).eu.slots = s.eu.slots

theorem keepsWork_cuePut : KeepsWork cuePutApply := fun p m s => by
  unfold cuePutApply; split <;> exact ⟨rfl, rfl⟩

theorem keepsWork_cueDrop : KeepsWork cueDropApply := fun p m s => by
  unfold cueDropApply; split <;> exact ⟨rfl, rfl⟩

theorem keepsWork_zoneSet : KeepsWork zoneSetApply := fun p m s => by
  unfold zoneSetApply; split <;> exact ⟨rfl, rfl⟩

theorem keepsWork_wallSet : KeepsWork wallSetApply := fun p m s => by
  unfold wallSetApply State.acceptWall
  split
  · exact ⟨rfl, rfl⟩
  · split <;> exact ⟨rfl, rfl⟩

theorem keepsWork_phaseSet : KeepsWork phaseSetApply := fun p m s => by
  unfold phaseSetApply; split <;> exact ⟨rfl, rfl⟩

theorem keepsWork_permit : KeepsWork permitApply := fun p m s => by
  unfold permitApply; split <;> exact ⟨rfl, rfl⟩

theorem keepsWork_lock : KeepsWork lockApply := fun _ _ _ => ⟨rfl, rfl⟩

/-- The completion of an ordinary edit keeps the laws where what it does when ACCEPTED keeps them. -/
theorem State.Lawful.complete {s : State} (h : s.Lawful) {kind : RequestKind} {outcome : Port → Message → State → EditOutcome}
    {apply : Port → Message → State → State} (hwork : KeepsWork apply)
    (happly : ∀ p m, s.eu.state = .working → outcome p m s = .accepted → (apply p m s).Lawful) :
    (s.complete kind outcome apply).Lawful := by
  rcases complete_cases kind outcome apply s with he | ⟨p, slot, hw, ha, _, ⟨hacc, he⟩ | ⟨_, he⟩⟩ <;> rw [he]
  · exact h
  · obtain ⟨hstate, hslots⟩ := hwork p slot.edit s
    exact (happly p slot.edit hw hacc).finishEdit (hstate.trans hw) ((active_congr hslots).trans ha) _
  · exact h.finishEdit hw ha _

/-- The timebase of a part past its load, changed under the same W, and running. -/
theorem State.Lawful.runWtb {s : State} (h : s.Lawful) (hb : s.eu.state ≠ .idle) {t : Wtb} (ht : t.Lawful) (hw : t.w = s.wtb.w)
    (hrun : t.state ≠ .unset) : { s with wtb := t }.Lawful :=
  { h with
    wtb := ht
    sched := by show s.sched.Lawful t.w; rw [hw]; exact h.sched
    joined := { h.joined with
      unset_empty := fun hu => absurd hu hrun
      loading := fun begun hl => absurd hl (h.loaded_of_busy hb begun) } }

theorem State.Lawful.cuePutApply {s : State} (h : s.Lawful) {p : Port} {m : Message} (ho : cuePutOutcome p m s = .accepted) :
    (cuePutApply p m s).Lawful := by
  obtain ⟨hset, c, hc, hm, hclash, hplace⟩ := cuePutOutcome_accepted ho
  obtain ⟨hk, hs, hh⟩ := putRecord_kept hc
  unfold Machine.cuePutApply
  rw [hc]
  exact h.setSched (h.sched.put hk hs hm hh hclash hplace) fun hu => absurd hu hset

theorem State.Lawful.cueDropApply {s : State} (h : s.Lawful) (p : Port) (m : Message) : (cueDropApply p m s).Lawful := by
  unfold Machine.cueDropApply
  split
  · exact h
  · next c hc =>
    obtain ⟨hmem, -⟩ := findCue_mem hc
    exact h.setSched (h.sched.drop hmem _) fun _ he => by rw [he] at hmem; cases hmem

theorem State.Lawful.zoneSetApply {s : State} (h : s.Lawful) (p : Port) (m : Message) : (zoneSetApply p m s).Lawful := by
  unfold Machine.zoneSetApply
  split
  · exact h
  · next z _ => exact h.setDimmer (h.dimmer.configure z (zoneConfig_lawful m))

/-- Accepted wall settings, of a part that is at work on an edit (R2, R8). -/
theorem State.Lawful.wallSetApply {s : State} (h : s.Lawful) (hb : s.eu.state ≠ .idle) (p : Port) (m : Message) :
    (wallSetApply p m s).Lawful := by
  unfold Machine.wallSetApply
  split
  · exact h
  · next set hset =>
    obtain ⟨htb, hcommon⟩ := wallSet_lawful hset
    have hrun := h.runWtb hb (h.wtb.accept htb hcommon) (accept_w set s.wtb) (accept_ne_unset set s.wtb)
    unfold State.acceptWall
    split
    · exact (hrun.setAmbient (h.ambient.handover hcommon)).setDimmer (h.dimmer.handover hcommon)
    · exact hrun

theorem State.Lawful.phaseSetApply {s : State} (h : s.Lawful) (p : Port) (m : Message) : (phaseSetApply p m s).Lawful := by
  unfold Machine.phaseSetApply
  split
  · next q mode _ _ => exact h.setWatch q ((h.watch q).set (num2_le m 5))
  · exact h

/-- The record that a PERMIT stores (R86). -/
theorem permission_lawful (m : Message) : (Message.permission m).Lawful := by
  intro range hrange
  simp only [Message.permission] at hrange
  split at hrange
  · next hle => cases hrange; exact hle
  · cases hrange

theorem State.Lawful.permitApply {s : State} (h : s.Lawful) (p : Port) (m : Message) : (permitApply p m s).Lawful := by
  unfold Machine.permitApply
  split
  · exact h
  · next q _ =>
    exact { h with
      eu := { h.eu with
        permits := fun r => by
          simp only [set_get]
          split
          · exact permission_lawful m
          · exact h.eu.permits r }
      joined := { h.joined with } }

theorem State.Lawful.lockApply {s : State} (h : s.Lawful) (p : Port) (m : Message) : (lockApply p m s).Lawful :=
  { h with
    eu := { h.eu with }
    joined := { h.joined with } }

/-! ### The save -/

/-- A phase of a save ends, the next begins (R167). -/
theorem State.Lawful.phaseEnd {s : State} (h : s.Lawful) {q : SettingsPage}
    (hq : q = s.page.erased ∨ q = s.page.programmed ∨ q = s.page.matched) : { s with page := q }.Lawful := by
  obtain ⟨hsaving, hloading⟩ := page_phases_state hq
  have hpage : q.Lawful := by
    rcases hq with rfl | rfl | rfl
    · exact h.page.erased
    · exact h.page.programmed
    · exact h.page.matched
  exact { h with
    page := hpage
    joined := { h.joined with
      storing_iff := h.joined.storing_iff.trans hsaving.symm
      loading := fun begun hb => h.joined.loading begun (hloading begun hb) } }

/-- The part whose save has ended, its SAVE about to complete: the unit counts as at work on it. -/
def State.saveEnded (marked : Bool) (s : State) : State :=
  { s with page := s.page.endSave marked, eu := { s.eu with state := .working } }

/-- A completion does not look whether the unit was WORKING or STORING. -/
theorem saveEnded_finishEdit (marked : Bool) (p : Port) (outcome : EditOutcome) (s : State) :
    (s.saveEnded marked).finishEdit p outcome = { s with page := s.page.endSave marked }.finishEdit p outcome := rfl

theorem State.Lawful.saveEnded {s : State} (h : s.Lawful) (hs : s.eu.state = .storing) {marked : Bool}
    (hm : marked = true → s.page.record.isSome = true) : (s.saveEnded marked).Lawful := by
  have hst := ((EditUnit.lawful_iff _).1 h.eu).1
  have hcount := hst.active_count
  rw [if_neg (by simp [hs])] at hcount
  exact { h with
    eu := (EditUnit.lawful_iff _).2
      ⟨{ hst with active_count := hcount, storing_save := fun he => by cases he }, fun hi => by cases hi⟩
    page := h.page.endSave hm
    joined := { h.joined with
      storing_iff := ⟨fun he => (by cases he), fun ⟨_, _, hp⟩ => (by cases hp)⟩
      loading := fun begun hb => by cases hb } }

/-- The end of a save (R74, R88, R167). -/
theorem State.Lawful.endSave {s : State} (h : s.Lawful) {phase : SavePhase} (hp : s.page.inPhase phase = true) {marked : Bool}
    (hm : marked = true → s.page.record.isSome = true) (outcome : EditOutcome) :
    ({ s with page := s.page.endSave marked }.completeSave outcome).Lawful := by
  obtain ⟨snapshot, hsaving⟩ := inPhase_iff.1 hp
  have hs : s.eu.state = .storing := h.joined.storing_iff.2 ⟨phase, snapshot, hsaving⟩
  have hcount := ((EditUnit.lawful_iff _).1 h.eu).1.active_count
  rw [if_neg (by simp [hs])] at hcount
  obtain ⟨p, slot, ha⟩ := active_isSome (by rw [hcount]; exact Nat.one_pos)
  have he : { s with page := s.page.endSave marked }.completeSave outcome = (s.saveEnded marked).finishEdit p outcome := by
    rw [saveEnded_finishEdit]
    simp only [State.completeSave, ha]
  rw [he]
  exact (h.saveEnded hs hm).finishEdit rfl ha outcome

end Sys2Proof.Machine
end

section
/-! PROOFS. Strobes, resets, the load and the passing of time keep the laws of the whole part, and so does every step. -/

namespace Sys2Proof.Machine

/-! ### Resets and the load -/

/-- Settles O56, block by block. -/
theorem resetIsLawful : Obligations.ResetIsLawful where
  wtb := Wtb.reset_lawful
  links p := by
    have h : State.reset.links[p] = .reset false := by simp [State.reset]
    rw [h]; exact Link.reset_lawful false
  eu := EditUnit.reset_lawful
  sched := Schedule.reset_lawful _
  watch p := by
    have h : State.reset.watch[p] = .reset := by simp [State.reset]
    rw [h]; exact EchoWatch.reset_lawful
  ambient := Ambient.reset_lawful
  dimmer := Dimmer.reset_lawful
  page :=
    { record := fun set hset => by cases hset
      marker_record := fun hm => by cases hm
      saving := fun phase snapshot hs => by cases hs }
  joined :=
    { holding_full := fun p hp => by simp [State.reset, Link.reset] at hp
      storing_iff := ⟨fun hs => (by cases hs), fun ⟨_, _, hs⟩ => (by cases hs)⟩
      unset_empty := fun _ => rfl
      loading := fun _ _ => ⟨rfl, rfl, fun p => by simp [State.reset, EditUnit.reset], fun p => by simp [State.reset, Link.reset]⟩ }

/-- A reset leaves the record and the marker of the page, and the CTS levels, as they were (R165, R169). -/
theorem State.Lawful.resetBlocks {s : State} (h : s.Lawful) : s.resetBlocks.Lawful := by
  have hlink : ∀ p : Port, s.resetBlocks.links[p] = Link.reset s.links[p].cts := fun p => by
    simp only [State.resetBlocks, mapAt_get]
  have h0 : State.reset.Lawful := resetIsLawful
  exact { h0 with
    links := fun p => by rw [hlink]; exact Link.reset_lawful _
    page :=
      { record := h.page.record
        marker_record := h.page.marker_record
        saving := fun phase snapshot hs => by cases hs }
    joined :=
      { holding_full := fun p hp => by rw [hlink] at hp; cases hp
        storing_iff := ⟨fun hs => (by cases hs), fun ⟨_, _, hs⟩ => (by cases hs)⟩
        unset_empty := fun _ => rfl
        loading := fun _ _ => ⟨rfl, rfl, (h0.joined.loading false rfl).2.2.1, fun p => by rw [hlink]; rfl⟩ } }

theorem State.Lawful.loadStart {s : State} (h : s.Lawful) (hb : s.page.state = .loading false) :
    { s with page := { s.page with state := .loading true } }.Lawful :=
  { h with
    page := { h.page with saving := fun phase snapshot hs => by cases hs }
    joined := { h.joined with
      storing_iff := h.joined.storing_iff.trans
        ⟨fun ⟨_, _, hs⟩ => (by rw [hb] at hs; cases hs), fun ⟨_, _, hs⟩ => (by cases hs)⟩
      loading := fun _ _ => h.joined.loading false hb } }

/-- The end of the load (R170): the settings of a lawful page reach blocks that nothing has reached before. -/
theorem State.Lawful.loaded {s : State} (h : s.Lawful) (hb : s.page.state = .loading true) (rxd : Vector Bool 6) :
    (s.loaded rxd).Lawful := by
  have hset := h.page.loadedSettings
  obtain ⟨hunset, hidle, hslots, hstop⟩ := h.joined.loading true hb
  have hlive := h.joined.unset_empty hunset
  have hlink : ∀ p : Port, (s.loaded rxd).links[p] = s.links[p].started rxd[p] := fun p => by
    simp only [State.loaded, mapAt_get]
  exact { h with
    wtb := h.wtb.loaded hunset hset
    links := fun p => by rw [hlink]; exact (h.links p).started _
    eu := { h.eu with permits := hset.permits }
    sched := by
      show s.sched.Lawful (s.wtb.loaded s.page.loadedSettings).w
      rw [loaded_w]; exact h.sched
    watch := fun p => by
      simp only [State.loaded, mapAt_get]
      exact EchoWatch.fresh_lawful (hset.echo p)
    ambient := h.ambient.handover hset.common
    dimmer :=
      { zones := fun z => by
          simp only [State.loaded, mapAt_get]
          exact Zone.loaded_lawful (hset.zones z)
        period_range := hset.common.period_range
        counterPeriod_range := hset.common.period_range
        counter_lt := Nat.lt_of_lt_of_le (by decide : 0 < 100) hset.common.period_range.1
        divider_lt := (by decide : 0 < 8)
        stopped_still := fun hr => by cases hr }
    page := { h.page with saving := fun phase snapshot hs => by cases hs }
    joined := { h.joined with
      holding_full := fun p hp => by
        rw [hlink] at hp
        have hheld : s.links[p].holding.isSome = true := hp
        rw [((h.links p).stopped_still (hstop p)).2.1] at hheld
        cases hheld
      storing_iff := ⟨fun hs => (by rw [State.loaded, hidle] at hs; cases hs), fun ⟨_, _, hs⟩ => (by cases hs)⟩
      unset_empty := fun _ => hlive
      loading := fun begun hl => by cases hl } }

/-! ### Strobes and the passing of time -/

/-- The ambient sweep does not look at the count of the frame that a strobe ends. -/
theorem ambientStrobe_frameCleared (t : Wtb) (a : Ambient) : a.strobe t.frameCleared = a.strobe t := rfl

/-- A strobe of a running part, whose cause left the timebase lawful but for the frame that it ends (R4). -/
theorem State.Lawful.strobe {s : State} (h : s.Lawful) (hrun : s.wtb.state ≠ .unset) {t : Wtb} (ht : t.frameCleared.Lawful)
    (hne : t.state ≠ .unset) (hw : t.w = s.wtb.w) (o : StrobeOrder) : ({ s with wtb := t }.strobe o).Lawful := by
  have hwtb : t.strobe.Lawful := by rw [← frameCleared_strobe]; exact ht.strobe hne
  exact { h with
    wtb := hwtb
    sched := by
      show (s.sched.strobe t.strobe.w _).Lawful t.strobe.w
      rw [wtbStrobe_w, hw]
      exact h.sched.strobe _
    watch := fun p => by
      simp only [State.strobe, mapAt_get]
      exact (h.watch p).strobe
    ambient := by
      show (s.ambient.strobe t).Lawful
      rw [← ambientStrobe_frameCleared]
      exact h.ambient.strobe ht
    dimmer := h.dimmer.strobe _ _ _ (fun p hp => by
      obtain ⟨set, hset, rfl⟩ := Option.map_eq_some_iff.1 hp
      exact (ht.pending set hset).2.period_range) _
    joined := { h.joined with
      unset_empty := fun hu => absurd (wtbStrobe_unset.1 hu) hne
      loading := fun begun hb => absurd (h.joined.loading begun hb).1 hrun } }

/-- Only a running timebase ends a frame (R3). -/
theorem strobeOf_runs {i : Instr} {s : State} {o : StrobeOrder} (h : strobeOf i s = some o) : s.wtb.state ≠ .unset := by
  intro hu
  cases i <;> simp [strobeOf, hu] at h

theorem endedBy_w (i : Instr) (t : Wtb) : (t.endedBy i).w = t.w := by
  cases i <;> simp [Wtb.endedBy, Wtb.passToLimit, Wtb.toHoldover]

/-- A command that ends the frame keeps the laws (R4). -/
theorem State.Lawful.exec_strobe {s t : State} (h : s.Lawful) {i : Instr} {o : StrobeOrder} (ho : strobeOf i s = some o)
    (he : exec i s = .next t) : t.Lawful := by
  rw [exec_endedBy ho] at he
  cases he
  rw [← strobeOf_atMoment i o.moment] at ho
  have hu := h.atMoment o.moment
  obtain ⟨hl, hne⟩ := hu.wtb.endedBy ho
  exact hu.strobe (strobeOf_runs ho) hl hne (endedBy_w i _) o

/-- The end of a frame that has reached its limit (R3). -/
theorem State.Lawful.endFrame {s : State} (h : s.Lawful) (hrun : s.wtb.state ≠ .unset) (o : StrobeOrder) : (s.endFrame o).Lawful :=
  (h.setFreeCount (s.freeCount + 1)).strobe hrun h.wtb.atLimit (fun hs => hrun (atLimit_unset hs)) (atLimit_w _) o

theorem wtbBasePeriod_frame (t : Wtb) : t.basePeriod.w = t.w ∧ t.basePeriod.state = t.state := by
  unfold Wtb.basePeriod
  split
  · exact ⟨rfl, rfl⟩
  · split
    · exact ⟨rfl, rfl⟩
    · exact ⟨passTicks_w 1 t, passTicks_state 1 t⟩

/-- A base period before the end of the frame (R1, R161). -/
theorem State.Lawful.basePeriod {s : State} (h : s.Lawful) (hdue : s.wtb.frameDue = false) : s.basePeriod.Lawful := by
  obtain ⟨hw, hs⟩ := wtbBasePeriod_frame s.wtb
  exact (h.setWtb (h.wtb.basePeriod hdue) hw (by rw [hs])).setDimmer h.dimmer.basePeriod

/-- The passing of time keeps the laws (R1, R3, R161). -/
theorem State.Lawful.elapse {s : State} (h : s.Lawful) : s.elapse.Lawful := by
  rcases elapse_cases s with ⟨hdue, he⟩ | ⟨hdue, he⟩ <;> rw [he]
  · have hrun := ((frameDue_iff _).1 hdue).1
    exact (h.atMoment _).endFrame (by rw [atMoment_wtb]; exact hrun) _
  · exact h.startDue.basePeriod (by rw [frameDue_startDue]; exact hdue)

/-! ### Every command -/

theorem Wtb.Lawful.n_le {t : Wtb} (h : t.Lawful) : t.n ≤ 65535 := by
  unfold Wtb.n
  cases hb : t.timebase with
  | none => simp
  | some b => exact (h.timebase b hb).2

/-- Ticks of the frame in progress pass (R3). -/
theorem State.Lawful.passUpTo {s : State} (h : s.Lawful) (k : Nat) : { s with wtb := s.wtb.passUpTo k }.Lawful :=
  h.setWtb (h.wtb.passUpTo k) (passUpTo_w k _) (by simp [Wtb.passUpTo])

/-- An echo edge (R131 to R135). -/
theorem State.Lawful.echoEdge {s : State} (h : s.Lawful) (p : Port) (k : Nat) :
    ({ s with wtb := s.wtb.passUpTo k }.setWatch p (s.watch[p].edge (s.wtb.passUpTo k).c (s.wtb.passUpTo k).n)).Lawful :=
  (h.passUpTo k).setWatch p ((h.watch p).edge (h.wtb.passUpTo k).n_le _)

/-- The completion of a SAVE, refused or at the end of its mark phase (R88, R167). -/
theorem State.Lawful.save {s : State} (h : s.Lawful) :
    (if s.eu.state = .storing ∧ s.page.inPhase .mark = true then { s with page := s.page.endSave true }.completeSave .accepted
      else s.complete .save saveRefused fun _ _ t => t).Lawful := by
  split
  · next hm =>
    obtain ⟨snapshot, hs⟩ := inPhase_iff.1 hm.2
    have hrecord := (h.page.saving _ _ hs).2.2.2 (.inr rfl)
    exact h.endSave hm.2 (fun _ => by rw [hrecord]; rfl) _
  · exact h.complete (fun _ _ _ => ⟨rfl, rfl⟩) fun _ _ _ _ => h

/-- The end of a check (R167). -/
theorem State.Lawful.check {s : State} (h : s.Lawful) (found : Bool) :
    (if s.page.inPhase .check then
      if found then { s with page := s.page.matched } else { s with page := s.page.endSave false }.completeSave .storeFault
      else s).Lawful := by
  split
  · next hc =>
    cases found with
    | true => exact h.phaseEnd (.inr (.inr rfl))
    | false => exact h.endSave hc (fun hm => by cases hm) _
  · exact h

/-- A reference edge that ends no frame (R9 to R13). -/
theorem State.Lawful.referenceEdge {s : State} (h : s.Lawful) (ticks : Nat) :
    { s with wtb := (s.wtb.passUpTo ticks).referenceEdge.1 }.Lawful :=
  h.setWtb (h.wtb.passUpTo ticks).referenceEdge (by simp)
    (referenceEdge_unset.trans (by simp [Wtb.passUpTo]))

/-- An event keeps the laws where its effect on the state that its moment finds does. -/
theorem State.lawful_of_event {s t : State} {m : Moment} {f : State → State} (he : s.event m f = .next t)
    (hf : (f (s.atMoment m)).Lawful) : t.Lawful := by
  cases he
  exact hf

/-- A command that ends no frame keeps the laws. -/
theorem State.Lawful.exec_quiet {s t : State} (h : s.Lawful) {i : Instr} (hn : strobeOf i s = none)
    (he : exec i s = .next t) : t.Lawful := by
  cases hp : sendPort i with
  | some p =>
    rcases exec_send_cases hp s with hs | ⟨x, _, hs⟩ <;> rw [hs] at he <;> cases he
    · exact h
    · exact h.send p x
  | none =>
  rw [exec.eq_def] at he
  cases i with
  | prepare | defer | commit | abort | editResult | report | step => cases hp
  | powerOnReset | pinReset => exact h.event he fun u hu => hu.resetBlocks
  | referenceEdge ticks o =>
    rw [← strobeOf_atMoment _ o.moment] at hn
    refine State.lawful_of_event he ?_
    dsimp only
    rw [referenceEdge_stays hn]
    exact (h.atMoment o.moment).referenceEdge ticks
  | freeRunningStrobe o =>
    rw [← strobeOf_atMoment _ o.moment] at hn
    refine State.lawful_of_event he ?_
    split
    · next hs =>
      cases hst : (s.atMoment o.moment).wtb.state <;> simp [strobeOf, hst, TimebaseState.runsFree] at hn hs
    · exact h.atMoment o.moment
  | lateLimitStrobe o =>
    rw [← strobeOf_atMoment _ o.moment] at hn
    refine State.lawful_of_event he ?_
    rw [if_neg fun hs => by simp [strobeOf, hs] at hn]
    exact h.atMoment o.moment
  | relockFrameLimit o =>
    rw [← strobeOf_atMoment _ o.moment] at hn
    refine State.lawful_of_event he ?_
    rw [if_neg fun hs => by simp [strobeOf, hs] at hn]
    exact h.atMoment o.moment
  | loadStart m =>
    refine h.event he fun u hu => ?_
    split
    · next hb => exact hu.loadStart hb
    · exact hu
  | loadEnd rxd m =>
    refine h.event he fun u hu => ?_
    split
    · next hb => exact hu.loaded hb rxd
    · exact hu
  | intervalTooLong m =>
    exact h.event he fun u hu => hu.setWtb hu.wtb.intervalTooLong (intervalTooLong_w _) (by rw [intervalTooLong_state])
  | framePulseEnd m => exact h.event he fun u hu => hu.setWtb hu.wtb.frameLow rfl Iff.rfl
  | messageEnd p m => exact h.event he fun u hu => hu.messageEnd p
  | stopBitEnd p m => exact h.event he fun u hu => hu.stopBitEnd p
  | returnToMark p m => exact h.event he fun u hu => hu.returnToMark p
  | erase m => exact h.event he fun u hu => hu.phaseEnd (.inl rfl)
  | program m => exact h.event he fun u hu => hu.phaseEnd (.inr (.inl rfl))
  | conversionEnd a m => exact h.event he fun u hu => hu.setAmbient (hu.ambient.conversionEnd a)
  | wrap m => exact h.event he fun u hu => hu.setDimmer hu.dimmer.wrap
  | receivedCharacter p ch m => exact h.event he fun u hu => hu.receive p ch
  | editArrival p b m | ready p b m | unready p b m | query p b m =>
    refine h.event he fun u hu => ?_
    split
    · exact hu.receive p _
    · exact hu
  | lineBreak p m =>
    refine h.event he fun u hu => ?_
    split
    · next hd => exact hu.portReset (by rw [hd]; decide)
    · exact hu
  | ctsAsserted p level m => exact h.event he fun u hu => (hu.startOn p).ctsChange p level
  | cuePut m => exact h.event he fun u hu => hu.complete keepsWork_cuePut fun p m _ ho => hu.cuePutApply ho
  | cueDrop m => exact h.event he fun u hu => hu.complete keepsWork_cueDrop fun p m _ _ => hu.cueDropApply p m
  | zoneSet m => exact h.event he fun u hu => hu.complete keepsWork_zoneSet fun p m _ _ => hu.zoneSetApply p m
  | wallSet m =>
    exact h.event he fun u hu => hu.complete keepsWork_wallSet fun p m hw _ => hu.wallSetApply (by simp [hw]) p m
  | phaseSet m => exact h.event he fun u hu => hu.complete keepsWork_phaseSet fun p m _ _ => hu.phaseSetApply p m
  | permit m => exact h.event he fun u hu => hu.complete keepsWork_permit fun p m _ _ => hu.permitApply p m
  | lock m => exact h.event he fun u hu => hu.complete keepsWork_lock fun p m _ _ => hu.lockApply p m
  | save m => exact h.event he fun u hu => hu.save
  | check found m => exact h.event he fun u hu => hu.check found
  | echoEdge p ticks m =>
    refine h.event he fun u hu => ?_
    dsimp only
    split
    · exact hu
    · exact hu.echoEdge p ticks

/-- Every command keeps the laws of the part. -/
theorem State.Lawful.exec {s t : State} (h : s.Lawful) {i : Instr} (he : exec i s = .next t) : t.Lawful := by
  cases ho : strobeOf i s with
  | some o => exact h.exec_strobe ho he
  | none => exact h.exec_quiet ho he

/-- Settles O60: time passes on an empty queue, and every command keeps the laws. -/
theorem stepKeepsLaws : Obligations.StepKeepsLaws := by
  unfold Obligations.StepKeepsLaws
  intro s t h hstep
  cases hq : s.pending with
  | nil =>
    have he : step s = .next s.elapse := by rw [step, hq]
    rw [he] at hstep
    cases hstep
    exact h.elapse
  | cons i rest =>
    have he : step s = exec i { s with pending := rest } := by rw [step, hq]
    exact (h.setPending rest).exec (he.symm.trans hstep)

/-- Settles O59: a part of the laws of the whole part. -/
theorem stepKeepsSignalLaws : Obligations.StepKeepsSignalLaws := by
  unfold Obligations.StepKeepsSignalLaws
  intro s t h hstep
  have ht := stepKeepsLaws s t h hstep
  exact ⟨ht.wtb, ht.watch, ht.ambient, ht.dimmer⟩

end Sys2Proof.Machine
end

section
/-! PROOFS. The player links (chapter 2): what a character does to its port, a whole message character by character, and the
transmitter between characters. -/

namespace Sys2Proof.Machine

/-! ### Parity (R20) -/

/-- The number of ones is the sum of the eight data bits. -/
theorem dataOnes_eq_sum (b : Byte) : dataOnes b = ∑ j : Fin 8, (b.getLsbD j.val).toNat := by
  simp only [dataOnes, List.foldl_cons, List.foldl_nil, Fin.sum_univ_eight]
  simp

/-- One changed data bit changes the parity of the ones. -/
theorem dataOnes_flip (b : Byte) (i : Fin 8) : (dataOnes (b ^^^ (1#8 <<< i.val)) + dataOnes b) % 2 = 1 := by
  have hbit : ∀ j : Fin 8, (b ^^^ (1#8 <<< i.val)).getLsbD j.val = (b.getLsbD j.val ^^ decide (j = i)) := by
    intro j
    have hmask : ∀ i j : Fin 8, (1#8 <<< i.val).getLsbD j.val = decide (j = i) := by decide
    rw [BitVec.getLsbD_xor, hmask]
  have hsum : ∀ j : Fin 8, (b.getLsbD j.val ^^ decide (j = i)).toNat + (b.getLsbD j.val).toNat
      = 2 * (b.getLsbD j.val && decide (j ≠ i)).toNat + (decide (j = i)).toNat := by
    intro j
    cases b.getLsbD j.val <;> by_cases h : j = i <;> simp [h]
  have hone : ∀ i : Fin 8, ∑ j : Fin 8, (decide (j = i)).toNat = 1 := by decide
  rw [dataOnes_eq_sum, dataOnes_eq_sum, ← Finset.sum_add_distrib]
  simp only [hbit, hsum]
  rw [Finset.sum_add_distrib, ← Finset.mul_sum, hone]
  omega

/-- The parity bit of a character with one changed data bit is the other one. -/
theorem evenParity_flip (b : Byte) (i : Fin 8) (mark : Bool) :
    evenParity (b ^^^ (1#8 <<< i.val)) mark = !evenParity b mark := by
  have h := dataOnes_flip b i
  rw [Bool.eq_not]
  simp only [evenParity, ne_eq, beq_eq_beq]
  omega

/-- The parity bit of a character with the other mark bit is the other one. -/
theorem evenParity_not (b : Byte) (mark : Bool) : evenParity b (!mark) = !evenParity b mark := by
  rw [Bool.eq_not]
  cases mark <;> simp only [evenParity, ne_eq, beq_eq_beq, Bool.toNat_true, Bool.toNat_false, Bool.not_true, Bool.not_false] <;>
    omega

/-- What the transmitter sends is good (R20, R21). -/
@[simp] theorem goodChar_outgoing (first : Bool) (b : Byte) : goodChar (outgoing first b) = true := by
  simp [goodChar, parityOk, outgoing]

/-- Settles O11: one changed bit among data bits and mark bit calls for the other parity bit. -/
theorem parityFindsOneChangedBit : Obligations.ParityFindsOneChangedBit := by
  unfold Obligations.ParityFindsOneChangedBit
  intro first b i
  refine ⟨goodChar_outgoing first b, ?_, ?_⟩
  · simp [goodChar, parityOk, outgoing, evenParity_flip]
  · simp [goodChar, parityOk, outgoing, evenParity_not]

/-! ### A character at its port (R21 to R24) -/

theorem modifyLink_eq_set (p : Port) (f : Link → Link) (s : State) :
    s.modifyLink p f = { s with links := s.links.set p (f s.links[p]) } := rfl

/-- A port's link written back as it stands. -/
theorem setLink_self (s : State) (p : Port) : { s with links := s.links.set p s.links[p] } = s :=
  congrArg (fun v => { s with links := v }) (Vector.set_getElem_self p.isLt)

/-- A character that completes no message changes its port alone. -/
theorem receive_incomplete {s : State} {p : Port} {ch : LineChar} {l : Link} (h : s.links[p].receive ch = (l, none)) :
    s.receive p ch = { s with links := s.links.set p l } := by
  simp only [State.receive, h]

/-- A character that completes a message delivers it. -/
theorem receive_complete {s : State} {p : Port} {ch : LineChar} {l : Link} {m : Message}
    (h : s.links[p].receive ch = (l, some m)) :
    s.receive p ch = State.deliver p m { s with links := s.links.set p l } := by
  simp only [State.receive, h]

theorem link_receive_bad {l : Link} {ch : LineChar} (hr : l.receiver = .ready) (hb : goodChar ch = false) :
    l.receive ch = (l.badCharacter ch, none) := by
  simp [Link.receive, hr, hb]

theorem link_receive_mark {l : Link} (hr : l.receiver = .ready) (code : Byte) :
    l.receive (outgoing true code) = (l.markCharacter code, none) := by
  simp [Link.receive, hr, outgoing, show goodChar ⟨code, true, evenParity code true, true⟩ = true from goodChar_outgoing true code]

theorem link_receive_data {l : Link} (hr : l.receiver = .ready) (b : Byte) :
    l.receive (outgoing false b) = l.dataCharacter b := by
  simp [Link.receive, hr, outgoing, show goodChar ⟨b, false, evenParity b false, true⟩ = true from goodChar_outgoing false b]

theorem link_receive_deaf {l : Link} (hr : l.receiver ≠ .ready) (ch : LineChar) : l.receive ch = (l, none) := by
  cases h : l.receiver with
  | ready => exact absurd h hr
  | stopped | awaitingMark => simp [Link.receive, h]

/-- A data character that leaves a message short of its length joins it (R23). -/
theorem dataCharacter_short {l : Link} {buffer : List Byte} {count : Nat} {b : Byte} (hx : l.rx = .assembling buffer count)
    (hl : messageLength (keepCharacter buffer b) ≠ some (count + 1)) :
    l.dataCharacter b = ({ l with rx := .assembling (keepCharacter buffer b) (count + 1) }, none) := by
  simp [Link.dataCharacter, hx, hl]

/-- The data character that brings a message to its length completes it (R23). -/
theorem dataCharacter_last {l : Link} {buffer : List Byte} {count : Nat} {b : Byte} (hx : l.rx = .assembling buffer count)
    (hl : messageLength (keepCharacter buffer b) = some (count + 1)) :
    l.dataCharacter b = ({ l with rx := .hunting }, some (keepCharacter buffer b)) := by
  simp [Link.dataCharacter, hx, hl]

/-- The assembly buffer keeps the first 43 characters of its message (R23). -/
theorem keepCharacter_eq_take {buffer : List Byte} (h : buffer.length ≤ bufferCap) (b : Byte) :
    keepCharacter buffer b = (buffer ++ [b]).take bufferCap := by
  unfold keepCharacter
  split
  · exact (List.take_of_length_le (by simp; omega)).symm
  · rw [List.take_append_of_le_length (by omega), List.take_of_length_le h]

/-- The eleven request kinds by their codes (R22, R23). -/
theorem requestKind_isSome (code : Byte) :
    (requestKind code).isSome = true ↔ (16 ≤ code.toNat ∧ code.toNat ≤ 23) ∨ (32 ≤ code.toNat ∧ code.toNat ≤ 34) := by
  unfold requestKind
  split <;> simp_all
  omega

/-- A mark character at a ready receiver, by its code (R22, R24). -/
theorem markCharacter_eq (code : Byte) (l : Link) :
    l.markCharacter code = { l with
      rx := if (requestKind code).isSome then .assembling [code] 1 else .hunting
      flags := { l.flags with
        truncated := l.flags.truncated || decide (l.rx ≠ .hunting)
        badKind := l.flags.badKind || !(requestKind code).isSome } } := by
  unfold Link.markCharacter
  cases requestKind code <;> simp

/-- Settles O12. -/
theorem badCharacterAndReturnToMark : Obligations.BadCharacterAndReturnToMark := by
  unfold Obligations.BadCharacterAndReturnToMark
  intro s p m hn
  refine ⟨fun ch hr hbad => ?_, s.modifyLink p Link.returnToMark, event_noStart hn _, ?_, ?_⟩
  · have hb : goodChar ch = false := by simpa [goodChar] using hbad
    have he : exec (.receivedCharacter p ch m) s = .next (s.receive p ch) := event_noStart hn _
    rw [he, receive_incomplete (link_receive_bad hr hb), Link.badCharacter, hr]
  · simp [modifyLink_eq_set, Link.returnToMark]
  · rw [modifyLink_get, if_pos rfl]
    simp only [Link.returnToMark]
    refine ⟨fun h => if_pos h, fun h => if_neg h, fun h => if_pos h, fun h => if_neg h⟩

/-- Settles O13, by what the port makes of a character in each state of its receiver. -/
theorem goodCharacters : Obligations.GoodCharacters := by
  unfold Obligations.GoodCharacters
  intro s p m hn
  have he : ∀ ch, exec (.receivedCharacter p ch m) s = .next (s.receive p ch) := fun ch => event_noStart hn _
  simp only [he]
  refine ⟨fun code hr => ⟨_, rfl, ?_⟩, fun ch hr => ?_, fun b hr hx => ?_, fun b buffer count hr hx hl hb => ?_⟩
  · rw [receive_incomplete (link_receive_mark hr code), markCharacter_eq]
    simp only [← requestKind_isSome, Bool.decide_eq_true]
  · rw [receive_incomplete (link_receive_deaf hr ch), setLink_self]
  · have hd : s.links[p].dataCharacter b = (s.links[p], none) := by simp only [Link.dataCharacter, hx]
    rw [receive_incomplete ((link_receive_data hr b).trans hd), setLink_self]
  · rw [← keepCharacter_eq_take hb] at hl ⊢
    rw [receive_incomplete ((link_receive_data hr b).trans (dataCharacter_short hx hl))]

/-! ### A whole message (R23) -/

/-- The part while a port assembles a message (R22). -/
def State.assembling (p : Port) (buffer : List Byte) (count : Nat) (s : State) : State :=
  s.modifyLink p fun l => { l with rx := .assembling buffer count }

theorem assembling_link (p : Port) (buffer : List Byte) (count : Nat) (s : State) :
    (s.assembling p buffer count).links[p] = { s.links[p] with rx := .assembling buffer count } := by
  rw [State.assembling, modifyLink_get, if_pos rfl]

/-- Two changes of a port's link one after the other. -/
theorem setLink_set (s : State) (p : Port) (k l : Link) :
    { { s with links := s.links.set p k } with links := (s.links.set p k).set p l } = { s with links := s.links.set p l } := by
  rw [Vector.set_set]

/-- A character that leaves the message short (R23). -/
theorem assembling_receive_short {s : State} {p : Port} {buffer : List Byte} {count : Nat} {b : Byte}
    (hr : s.links[p].receiver = .ready) (hl : messageLength (keepCharacter buffer b) ≠ some (count + 1)) :
    (s.assembling p buffer count).receive p (outgoing false b) = s.assembling p (keepCharacter buffer b) (count + 1) := by
  have hlink := assembling_link p buffer count s
  rw [receive_incomplete ((link_receive_data (by rw [hlink]; exact hr) b).trans
    (dataCharacter_short (by rw [hlink]) hl)), hlink]
  exact setLink_set s p _ _

/-- The character that completes the message of a port that hunted before it (R23, R25). -/
theorem assembling_receive_last {s : State} {p : Port} {buffer : List Byte} {count : Nat} {b : Byte}
    (hr : s.links[p].receiver = .ready) (hx : s.links[p].rx = .hunting)
    (hl : messageLength (keepCharacter buffer b) = some (count + 1)) :
    (s.assembling p buffer count).receive p (outgoing false b) = s.deliver p (keepCharacter buffer b) := by
  have hlink := assembling_link p buffer count s
  have hback : { s.links[p] with rx := .hunting } = s.links[p] := by rw [← hx]
  rw [receive_complete ((link_receive_data (by rw [hlink]; exact hr) b).trans
    (dataCharacter_last (by rw [hlink]) hl)), hlink]
  have hset : { s.assembling p buffer count with
      links := (s.assembling p buffer count).links.set p { s.links[p] with rx := .hunting } } = s := by
    rw [hback]
    exact (setLink_set s p _ _).trans (setLink_self s p)
  exact congrArg (State.deliver p (keepCharacter buffer b)) hset

/-- The kind character of a message at a port that hunts (R22). -/
theorem receive_kind {s : State} {p : Port} {code : Byte} (hr : s.links[p].receiver = .ready) (hx : s.links[p].rx = .hunting)
    (hk : (requestKind code).isSome = true) : s.receive p (outgoing true code) = s.assembling p [code] 1 := by
  rw [receive_incomplete (link_receive_mark hr code), markCharacter_eq, State.assembling, modifyLink_eq_set, hk, hx]
  simp

/-- The characters kept of a longer part of a message. -/
theorem keepCharacter_take {l : List Byte} {k : Nat} (h : k < l.length) :
    keepCharacter ((l.take k).take bufferCap) l[k] = (l.take (k + 1)).take bufferCap := by
  by_cases hk : k < bufferCap
  · rw [keepCharacter, if_pos (by simp; omega), List.take_take, List.take_take, min_eq_right (by omega),
      min_eq_right (by omega), List.take_add_one, List.getElem?_eq_getElem h]
    rfl
  · rw [keepCharacter, if_neg (by simp; omega), List.take_take, List.take_take, min_eq_left (by omega), min_eq_left (by omega)]

theorem take_char (l : List Byte) {k pos : Nat} (h : pos - 1 < k) : Message.char (l.take k) pos = Message.char l pos := by
  simp [Message.char, List.getD_eq_getElem?_getD, List.getElem?_take_of_lt h]

/-- The first characters of a message show its length or none (R23). -/
theorem messageLength_take {l : List Byte} {k n : Nat} (hk : 0 < k) (h : messageLength l = some n) :
    messageLength (l.take k) = none ∨ messageLength (l.take k) = some n := by
  have hkind : Message.kind (l.take k) = Message.kind l := by rw [Message.kind, take_char l (by omega), Message.kind]
  by_cases hp : Message.kind l = some .cuePut
  · by_cases h25 : k < 25
    · left
      simp only [messageLength, hkind, hp, List.length_take]
      rw [if_pos (by omega)]
    · right
      have hnum : Message.num (l.take k) 25 = Message.num l 25 := by
        rw [Message.num, take_char l (by omega), Message.num]
      rw [← h]
      simp only [messageLength, hkind, hp, hnum, List.length_take]
      congr 1
      simp only [eq_iff_iff]
      omega
  · right
    rw [messageLength_congr hkind hp, h]

/-- The part after the kind character and `k` data characters of a message that is not yet whole. -/
theorem receive_part {s : State} {p : Port} {code : Byte} {rest : List Byte} (hr : s.links[p].receiver = .ready)
    (hx : s.links[p].rx = .hunting) (hl : messageLength ((code :: rest).take bufferCap) = some (rest.length + 1)) :
    ∀ k < rest.length, (rest.take k).foldl (fun u b => u.receive p (outgoing false b)) (s.receive p (outgoing true code))
      = s.assembling p (((code :: rest).take (k + 1)).take bufferCap) (k + 1) := by
  intro k
  induction k with
  | zero =>
    intro _
    have hk : (requestKind code).isSome = true := by
      cases hc : requestKind code with
      | some kind => rfl
      | none => simp [messageLength, Message.kind, Message.char, bufferCap, hc] at hl
    exact receive_kind hr hx hk
  | succ k ih =>
    intro hlt
    have hshort : messageLength (((code :: rest).take (k + 2)).take bufferCap) ≠ some (k + 1 + 1) := by
      have hshow := messageLength_take (k := k + 2) (by omega) hl
      rw [List.take_take, min_comm, ← List.take_take] at hshow
      rcases hshow with h | h <;> rw [h]
      · simp
      · rw [ne_eq, Option.some.injEq]; omega
    have hkeep := keepCharacter_take (l := code :: rest) (k := k + 1) (by simp; omega)
    rw [List.getElem_cons_succ] at hkeep
    rw [List.take_add_one, List.getElem?_eq_getElem (by omega), Option.toList_some, List.foldl_append, ih (by omega),
      List.foldl_cons, List.foldl_nil, assembling_receive_short hr (by rw [hkeep]; exact hshort), hkeep]

/-- Settles O15: every character but the last leaves the message short, by induction on the characters, and the last completes
it. -/
theorem wholeMessageIsDelivered : Obligations.WholeMessageIsDelivered := by
  unfold Obligations.WholeMessageIsDelivered
  intro s p code rest hr hx hl
  have hpart := receive_part hr hx hl
  refine ⟨fun k hk hle => ?_, ?_⟩
  · have h := hpart (k - 1) (by omega)
    rw [Nat.sub_add_cancel hk] at h
    exact ⟨_, by rw [h, assembling_link]⟩
  · have hne : rest ≠ [] := by
      rintro rfl
      exact absurd (messageLength_kind code 1 hl) (lt_irrefl 1)
    have hlen : rest.length - 1 + 1 = rest.length := Nat.sub_add_cancel (List.length_pos_iff.2 hne)
    have hkeep := keepCharacter_take (l := code :: rest) (k := rest.length - 1 + 1) (by simp; omega)
    rw [List.getElem_cons_succ, List.take_of_length_le (i := rest.length - 1 + 1 + 1) (by simp; omega)] at hkeep
    conv_lhs => rw [← List.dropLast_append_getLast hne]
    rw [List.foldl_append, List.dropLast_eq_take, hpart _ (by omega), List.foldl_cons, List.foldl_nil, List.getLast_eq_getElem,
      assembling_receive_last hr hx (by rw [hkeep, hlen]; exact hl), hkeep]

/-! ### The transmitter (R30, R33) -/

/-- A port whose transmitter is busy, or whose composer chooses nothing, starts no message (R31). -/
theorem startOn_of_not_chosen {s : State} {p : Port} (h : s.chosen p = none) : s.startOn p = s := by
  simp [State.startOn, h]

theorem chosen_of_busy {s : State} {p : Port} (h : s.links[p].tx ≠ .idle) : s.chosen p = none := by
  rw [State.chosen, State.canSend, decide_eq_false h, Bool.false_and, if_neg Bool.false_ne_true]

/-- Settles O18: in each state of the transmitter, what the end of a character and a change of CTS make of the port. -/
theorem transmitterFollowsCts : Obligations.TransmitterFollowsCts := by
  unfold Obligations.TransmitterFollowsCts
  intro s p current b rest level m hn
  have hstop : exec (.stopBitEnd p m) s = .next { s with links := s.links.set p s.links[p].stopBitEnd } := event_noStart hn _
  have hend : exec (.messageEnd p m) s = .next { s with links := s.links.set p s.links[p].messageEnd } := event_noStart hn _
  have hcts : s.chosen p = none → ∀ level, exec (.ctsAsserted p level m) s
      = .next { s with links := s.links.set p (s.links[p].ctsChange level) } := fun hc level => by
    have he : exec (.ctsAsserted p level m) s = .next ((s.startOn p).modifyLink p (Link.ctsChange level)) :=
      event_noStart hn fun u => (u.startOn p).modifyLink p (Link.ctsChange level)
    rw [he, startOn_of_not_chosen hc, modifyLink_eq_set]
  refine ⟨fun ht => ⟨?_, ?_⟩, fun ht => ?_, fun ht hc => ?_, fun ht => ?_, fun ht => ?_⟩
  · simp only [hstop, Link.stopBitEnd, ht]
  · simp only [hcts (chosen_of_busy (by rw [ht]; simp)), Link.ctsChange, ht]
  · simp only [hcts (chosen_of_busy (by rw [ht]; simp)), Link.ctsChange, ht, if_true]
  · simp only [hcts hc, Link.ctsChange, ht]
  · simp only [hend, Link.messageEnd, ht]
  · simp only [hstop, Link.stopBitEnd, ht]

end Sys2Proof.Machine
end

section
/-! PROOFS. The edit slots of a port (chapter 5): an edit that arrives, and a completion; the port reset of a break (R32 to R34)
and the end of the settings page load (R170). -/

namespace Sys2Proof.Machine

/-- Settles O57: a part of the laws of the whole part. -/
theorem stepKeepsEditLaw : Obligations.StepKeepsEditLaw := by
  unfold Obligations.StepKeepsEditLaw
  intro s t h hstep
  have ht := stepKeepsLaws s t h hstep
  exact ⟨ht.links, ht.eu, ht.joined.holding_full⟩

/-! ### An edit that arrives (R25 to R27, R74, R75) -/

theorem headOf_eq_none {l : List EditSlot} : headOf l = none ↔ ∀ x ∈ l, x.status ≠ .queued := by
  simp [headOf, List.find?_eq_none]

/-- The arbiter serves a port that alone has a head (R75). -/
theorem nextPort_eq {eu : EditUnit} {p : Port} {slot : EditSlot} (hs : headOf eu.slots[p] = some slot)
    (hothers : ∀ q : Port, q ≠ p → headOf eu.slots[q] = none) : eu.nextPort = some p := by
  cases hn : eu.nextPort with
  | none => rw [headOf_eq_none.2 (nextPort_none hn p)] at hs; cases hs
  | some q =>
    obtain ⟨x, hx⟩ := nextPort_some hn
    by_cases hq : q = p
    · rw [hq]
    · rw [hothers q hq] at hx; cases hx

/-- The edit that joins slots with nothing QUEUED is their head (R72). -/
theorem headOf_enqueue {l : List EditSlot} (h : ∀ x ∈ l, x.status ≠ .queued) (m : Message) :
    headOf (enqueue m l) = some ⟨freeSlotName l, m, .queued⟩ := by
  have hnone : List.find? (fun x => decide (x.status = .queued)) l = none := headOf_eq_none.2 h
  simp [headOf, enqueue, List.find?_append, hnone]

theorem activateHead_enqueue {l : List EditSlot} (h : ∀ x ∈ l, x.status ≠ .queued) (m : Message) :
    activateHead (enqueue m l) = l ++ [⟨freeSlotName l, m, .active false⟩] := by
  unfold enqueue
  generalize freeSlotName l = name
  induction l with
  | nil => rfl
  | cons x xs ih =>
    rw [List.cons_append, activateHead, if_neg (h x List.mem_cons_self), ih fun y hy => h y (List.mem_cons_of_mem _ hy)]
    rfl

/-- The arbiter of an IDLE unit that has one head takes it (R74, R75, R88). -/
theorem arbitrate_take {s : State} {p : Port} {slot : EditSlot} (hi : s.eu.state = .idle) (hs : headOf s.eu.slots[p] = some slot)
    (hothers : ∀ q : Port, q ≠ p → headOf s.eu.slots[q] = none) :
    s.arbitrate = { s with
      eu := { s.eu with
        slots := modifyAt s.eu.slots p activateHead
        pointer := p + 1
        state := if s.eu.startsSave p slot then .storing else .working }
      page := if s.eu.startsSave p slot then s.page.beginSave s.settings else s.page } := by
  have hn := nextPort_eq hs hothers
  simp only [State.arbitrate, if_pos hi, hn, hs]
  split <;> rfl

/-- An edit placed in an EMPTY slot of an IDLE unit that has nothing QUEUED is taken at once (R74, R75). -/
theorem placeEdit_idle {s : State} {p : Port} {m : Message} (hl : s.eu.slots[p].length < slotCount) (hi : s.eu.state = .idle)
    (hq : ∀ q : Port, ∀ x ∈ s.eu.slots[q], x.status ≠ .queued) :
    ∃ name, s.placeEdit p m = { s with
      eu := { s.eu with
        slots := s.eu.slots.set p (s.eu.slots[p] ++ [⟨name, m, .active false⟩])
        pointer := p + 1
        state := if s.eu.startsSave p ⟨name, m, .queued⟩ then .storing else .working }
      page := if s.eu.startsSave p ⟨name, m, .queued⟩ then s.page.beginSave s.settings else s.page } := by
  have hslots : ∀ q : Port, (s.modifySlots p (enqueue m)).eu.slots[q] = if q = p then enqueue m s.eu.slots[q] else s.eu.slots[q] :=
    fun q => modifySlots_get p q _ s
  have hhead : headOf (s.modifySlots p (enqueue m)).eu.slots[p] = some ⟨freeSlotName s.eu.slots[p], m, .queued⟩ := by
    rw [hslots, if_pos rfl, headOf_enqueue (hq p)]
  have hset : modifyAt (s.modifySlots p (enqueue m)).eu.slots p activateHead
      = s.eu.slots.set p (s.eu.slots[p] ++ [⟨freeSlotName s.eu.slots[p], m, .active false⟩]) := vector_ext_fin fun q => by
    rw [modifyAt_get, hslots, set_get]
    split
    · next hqp => rw [hqp, activateHead_enqueue (hq p)]
    · rfl
  refine ⟨freeSlotName s.eu.slots[p], ?_⟩
  rw [State.placeEdit, if_pos hl, arbitrate_take (by exact hi) hhead fun q hqp => ?_, hset]
  · rfl
  · rw [hslots, if_neg hqp]; exact headOf_eq_none.2 (hq q)

/-- An edit placed in an EMPTY slot of a busy unit is QUEUED there (R27, R71). -/
theorem placeEdit_busy {s : State} {p : Port} {m : Message} (hl : s.eu.slots[p].length < slotCount) (hb : s.eu.state ≠ .idle) :
    s.placeEdit p m = s.modifySlots p (enqueue m) := by
  rw [State.placeEdit, if_pos hl, arbitrate_busy _ (by exact hb)]

/-- An edit placed in an EMPTY slot reaches the edit unit and the settings page alone, and keeps permission records and lock. -/
theorem placeEdit_frame {s : State} {p : Port} {m : Message} (hl : s.eu.slots[p].length < slotCount) :
    ∃ eu page, s.placeEdit p m = { s with eu := eu, page := page } ∧ eu.permits = s.eu.permits ∧ eu.lock = s.eu.lock := by
  rw [State.placeEdit, if_pos hl]
  rcases arbitrate_cases (s.modifySlots p (enqueue m)) with h | ⟨q, slot, _, _, _, ⟨_, h⟩ | ⟨_, h⟩⟩ <;>
    exact ⟨_, _, h, rfl, rfl⟩

/-- The two commands of a character that completes an edit (R22, R26). -/
theorem exec_editArrival {s : State} {p : Port} {b : Byte} {l : Link} {m : Message} {k : RequestKind} {mo : Moment}
    (hn : s.NoStartBefore mo) (hm : s.links[p].receive (outgoing false b) = (l, some m)) (hk : Message.kind m = some k)
    (he : k.isEdit = true) :
    exec (.editArrival p b mo) s = .next (s.receive p (outgoing false b))
      ∧ exec (.receivedCharacter p (outgoing false b) mo) s = .next (s.receive p (outgoing false b)) := by
  have hedit : ((s.completesKind p b).map RequestKind.isEdit).getD false = true := by
    rw [State.completesKind, hm, Option.bind_some, hk, Option.map_some, he, Option.getD_some]
  have harr : exec (.editArrival p b mo) s = .next (if ((s.completesKind p b).map RequestKind.isEdit).getD false
      then s.receive p (outgoing false b) else s) := event_noStart hn fun u =>
    if ((u.completesKind p b).map RequestKind.isEdit).getD false then u.receive p (outgoing false b) else u
  rw [if_pos hedit] at harr
  exact ⟨harr, event_noStart hn _⟩

/-- Settles O16, by where the edit finds the holding slot, its edit slots and the edit unit. -/
theorem editArrives : Obligations.EditArrives := by
  unfold Obligations.EditArrives
  intro s p b buffer m count k mo hn hr hx hm hl hk he
  subst hm
  have hrecv := (link_receive_data hr b).trans (dataCharacter_last hx hl)
  obtain ⟨harr, hchar⟩ := exec_editArrival hn hrecv hk he
  refine ⟨_, harr, hchar, ?_⟩
  rw [receive_complete hrecv]
  generalize keepCharacter buffer b = m at hk
  have hlink : (State.modifyLink p (fun l => { l with rx := .hunting }) s).links[p] = { s.links[p] with rx := .hunting } := by
    rw [modifyLink_get, if_pos rfl]
  rw [← modifyLink_eq_set p (fun l => { l with rx := .hunting })]
  have hplace : s.links[p].holding = none →
      (s.modifyLink p fun l => { l with rx := .hunting }).deliver p m
        = (s.modifyLink p fun l => { l with rx := .hunting }).placeEdit p m := fun hh => by
    rw [State.deliver, if_neg (by rw [hlink, hh]; simp), dispatch_edit hk he]
  refine ⟨fun hh => ?_, fun hh hfull => ?_, fun hh hfree => ?_⟩
  · rw [State.deliver, if_pos (by rw [hlink]; exact hh), modifyLink_eq_set, hlink]
    exact setLink_set s p _ _
  · rw [hplace hh, State.placeEdit, if_neg (by rw [modifyLink_eu, hfull]; decide), modifyLink_eq_set, hlink]
    exact setLink_set s p _ _
  · rw [hplace hh]
    have hl : (s.modifyLink p fun l => { l with rx := .hunting }).eu.slots[p].length < slotCount := hfree
    obtain ⟨eu, page, hf, hpermits, hlock⟩ := placeEdit_frame (m := m) hl
    refine ⟨by rw [hf]; rfl, by rw [hf]; rfl, by rw [hf]; rfl, by rw [hf]; rfl, by rw [hf]; rfl, by rw [hf]; rfl,
      by rw [hf]; rfl, by rw [hf]; exact hpermits, by rw [hf]; exact hlock, fun hb => ?_, fun hlaw hi => ?_⟩
    · rw [placeEdit_busy hl hb]
      refine ⟨rfl, rfl, fun q hq => ?_, freeSlotName s.eu.slots[p], ?_⟩
      · rw [modifySlots_get, if_neg hq]; rfl
      · rw [modifySlots_get, if_pos rfl]; rfl
    · obtain ⟨name, ht⟩ := placeEdit_idle (m := m) hl hi (hlaw.idle_served hi)
      have hsave : EditUnit.startsSave s.eu p ⟨name, m, .queued⟩ = true ↔ k = .save ∧ s.eu.permits[p].rights.save = true := by
        simp only [EditUnit.startsSave, hk, Bool.and_eq_true, decide_eq_true_eq, Option.some.injEq]
      rw [ht]
      refine ⟨fun q hq => ?_, ⟨name, ?_⟩, rfl, ?_⟩
      · simp only [set_get, if_neg hq, modifyLink_eu]
      · simp only [set_get, if_true, modifyLink_eu]
      · simp only [modifyLink_eu, modifyLink_page, hsave]
        split <;> exact ⟨rfl, rfl⟩

/-! ### A completion (R27, R73, R74, R89) -/

/-- At most one slot of a port is ACTIVE (R74). -/
theorem EditUnit.Stocked.activeCount_le {eu : EditUnit} (h : eu.Stocked) (p : Port) : activeCount eu.slots[p] ≤ 1 := by
  have hle := Finset.single_le_sum (f := fun q : Port => activeCount eu.slots[q]) (fun _ _ => Nat.zero_le _) (Finset.mem_univ p)
  have hsum := h.active_count
  split at hsum <;> omega

/-- A completion leaves slots that are not ACTIVE as they are (R73). -/
theorem finishSlot_inactive (outcome : EditOutcome) {l : List EditSlot} (h : activeCount l = 0) :
    l.filterMap (finishSlot outcome) = l := by
  have hid : ∀ x ∈ l, finishSlot outcome x = some x := fun x hx => by
    have hx := List.countP_eq_zero.1 h x hx
    cases hs : x.status with
    | queued | done => simp [finishSlot, hs]
    | active orphan => exact absurd ((isActive_iff x).2 ⟨orphan, hs⟩) hx
  rw [List.filterMap_congr hid, List.filterMap_some]

/-- The slots around the ACTIVE one stay as they are at its completion (R73, R89). -/
theorem finishSlot_around {l before after : List EditSlot} {x : EditSlot} (hl : activeCount l ≤ 1) (he : l = before ++ x :: after)
    (ha : x.isActive = true) (outcome : EditOutcome) :
    l.filterMap (finishSlot outcome) = before ++ (finishSlot outcome x).toList ++ after := by
  rw [he, activeCount, List.countP_append, List.countP_cons_of_pos ha] at hl
  rw [he, List.filterMap_append, List.filterMap_cons, finishSlot_inactive outcome (by unfold activeCount; omega),
    finishSlot_inactive outcome (by unfold activeCount; omega)]
  cases finishSlot outcome x <;> simp

/-- A completion as the new slots of its port, the move out of the holding slot, and the arbiter. -/
theorem finishEdit_eq {s : State} {p : Port} {outcome : EditOutcome} {l : List EditSlot}
    (h : s.eu.slots[p].filterMap (finishSlot outcome) = l) :
    s.finishEdit p outcome
      = (State.refill p { s with eu := { s.eu with state := .idle, slots := s.eu.slots.set p l } }).arbitrate := by
  subst h
  rfl

theorem refill_of_empty {s : State} {p : Port} (h : s.links[p].holding = none) : s.refill p = s := by
  unfold State.refill
  rw [h]

/-- An edit waits on behind two occupied slots (R27). -/
theorem refill_of_full {s : State} {p : Port} (h : s.eu.slots[p].length = slotCount) : s.refill p = s := by
  unfold State.refill
  split
  · rfl
  · exact if_neg (by omega)

/-- A waiting edit moves into an EMPTY slot (R27). -/
theorem refill_of_waiting {s : State} {p : Port} {m : Message} (hm : s.links[p].holding = some m)
    (hl : s.eu.slots[p].length < slotCount) :
    s.refill p = (s.modifySlots p (enqueue m)).modifyLink p fun l => { l with holding := none } := by
  unfold State.refill
  rw [hm]
  exact if_pos hl

/-- Settles O28: the law of the unit leaves the other slots of the port as they are, and two occupied slots are what a waiting
edit stands behind. -/
theorem completionSettlesSlot : Obligations.CompletionSettlesSlot := by
  unfold Obligations.CompletionSettlesSlot
  intro s p x before after outcome hlaw hfull hslots
  have hone : activeCount s.eu.slots[p] ≤ 1 := ((EditUnit.lawful_iff _).1 hlaw).1.activeCount_le p
  have hfinish := fun ha : x.isActive = true => finishSlot_around hone hslots ha outcome
  have hget : ∀ l, (s.eu.slots.set p l)[p] = l := fun l => by rw [set_get, if_pos rfl]
  refine ⟨fun hx => ?_, fun hx hh => ?_, fun m hx hh => ?_⟩
  · have hdone : finishSlot outcome x = some { x with status := .done outcome } := by simp [finishSlot, hx]
    rw [finishEdit_eq (hfinish ((isActive_iff x).2 ⟨_, hx⟩)), hdone, Option.toList_some, List.append_assoc, List.singleton_append]
    cases hh : s.links[p].holding with
    | none => rw [refill_of_empty (by exact hh)]
    | some m =>
      have hlen := hfull p (by rw [hh]; rfl)
      rw [hslots] at hlen
      rw [refill_of_full (by simpa [hget] using hlen)]
  · have hgone : finishSlot outcome x = none := by simp [finishSlot, hx]
    rw [finishEdit_eq (hfinish ((isActive_iff x).2 ⟨_, hx⟩)), hgone, Option.toList_none, List.append_nil,
      refill_of_empty (by exact hh)]
  · have hgone : finishSlot outcome x = none := by simp [finishSlot, hx]
    have hlen := hfull p (by rw [hh]; rfl)
    rw [hslots, List.length_append, List.length_cons] at hlen
    refine ⟨freeSlotName (before ++ after), ?_⟩
    rw [finishEdit_eq (hfinish ((isActive_iff x).2 ⟨_, hx⟩)), hgone, Option.toList_none, List.append_nil,
      refill_of_waiting (by exact hh) (by rw [hget, List.length_append]; omega), modifyLink_eq_set]
    simp only [State.modifySlots, modifyAt, hget, Vector.set_set, enqueue]

/-! ### A break (R32 to R34) -/

/-- What a port reset leaves of a port's edit slots (R89). -/
theorem filterMap_resetSlot (l : List EditSlot) :
    l.filterMap resetSlot = (l.filter EditSlot.isActive).map fun x => { x with status := .active true } := by
  induction l with
  | nil => rfl
  | cons x xs ih =>
    cases hs : x.status with
    | queued | done =>
      rw [List.filterMap_cons_none (by simp [resetSlot, hs]), ih, List.filter_cons_of_neg (by simp [isActive_iff, hs])]
    | active orphan =>
      have hr : resetSlot x = some { x with status := .active true } := by simp [resetSlot, hs]
      rw [List.filterMap_cons_some hr, ih, List.filter_cons_of_pos (by simp [isActive_iff, hs]), List.map_cons]

/-- The settings of a port's phase watch and its cleared working state (R138, R139). -/
theorem fresh_eq (settings : EchoSettings) :
    EchoWatch.fresh settings = ⟨settings, 0, 0, 0, 0, 0, if settings.mode = .unused then .unused else .inStep⟩ := by
  unfold EchoWatch.fresh
  by_cases h : settings.mode = .unused
  · rw [if_pos h, h]; rfl
  · rw [if_neg h, if_pos ((capturing_iff _).2 h)]

/-- A changed step status makes a STEP owed (R121, R136). -/
theorem noteStatus_eq (before after : StepStatus) (c : Composer) :
    c.noteStatus before after = { c with stepOwed := c.stepOwed || decide (after ≠ before) } := by
  unfold Composer.noteStatus
  split
  · next h => simp [h]
  · next h => simp [Ne.symm h]

/-- Settles O19, block by block. -/
theorem breakResetsPort : Obligations.BreakResetsPort := by
  unfold Obligations.BreakResetsPort
  intro s p m hn hd
  have he : exec (.lineBreak p m) s = .next (if s.links[p].detector = .measuring then s.portReset p else s) :=
    event_noStart hn fun u => if u.links[p].detector = .measuring then u.portReset p else u
  rw [if_pos hd] at he
  have hlink : (s.portReset p).links[p] = s.links[p].portReset := modifyAt_same _ _ _
  have hslots : (s.portReset p).eu.slots[p] = s.eu.slots[p].filterMap resetSlot := modifyAt_same _ _ _
  have hcomposer : (s.portReset p).composers[p] = Composer.noteStatus s.watch[p].status
      (EchoWatch.fresh s.watch[p].settings).status ⟨false, none⟩ := by
    simp only [State.portReset, State.setWatch, modifyAt_same, set_get, if_true]
  have hwatch : (s.portReset p).watch[p] = EchoWatch.fresh s.watch[p].settings := by
    simp only [State.portReset, State.setWatch, set_get, if_true]
  refine ⟨_, he, ?_⟩
  rw [hlink, hslots, hcomposer, hwatch, filterMap_resetSlot, noteStatus_eq, fresh_eq]
  refine ⟨rfl, rfl, rfl, rfl, rfl, rfl, fun c rest ht hne => ?_, fun c ht => ?_, fun rest ht => ?_, fun q hq => ?_, rfl, rfl, rfl,
    rfl, rfl, rfl, rfl, rfl, ?_, rfl, rfl, rfl, rfl, rfl, rfl, ?_⟩
  · obtain ⟨b, tail, rfl⟩ := List.exists_cons_of_ne_nil hne
    simp only [Link.portReset, ht, TxState.abandon]
  · simp only [Link.portReset, ht, TxState.abandon]
  · simp only [Link.portReset, ht, TxState.abandon]
  · simp only [State.portReset, State.setWatch, Schedule.portReset, modifyAt_other _ hq, set_get, if_neg hq, true_and]
  · exact modifyAt_same _ _ _
  · exact List.length_map _

/-! ### The load (R170) -/

/-- The settings that a load takes (R169). -/
theorem loadedSettings_eq {page : SettingsPage} {set : Settings} (hmarked : page.marker = true → page.record = some set)
    (hblank : page.marker = false → set = Settings.default) : page.loadedSettings = set := by
  unfold SettingsPage.loadedSettings
  cases hm : page.marker with
  | true => rw [if_pos rfl, hmarked hm, Option.getD_some]
  | false => rw [if_neg Bool.false_ne_true, hblank hm]

/-- The timebase at the end of the load (R8, R18). -/
theorem wtbLoaded_some {set : Settings} {b : Timebase} (h : set.timebase = some b) (t : Wtb) :
    t.loaded set = t.start ⟨b, set.common⟩ := by
  rw [Wtb.loaded, h]

theorem wtbLoaded_none {set : Settings} (h : set.timebase = none) (t : Wtb) : t.loaded set = { t with common := set.common } := by
  rw [Wtb.loaded, h]

/-- Settles O55, block by block. -/
theorem loadStartsThePart : Obligations.LoadStartsThePart := by
  unfold Obligations.LoadStartsThePart
  intro s rxd m hn
  refine ⟨fun hp => ?_, fun hp set hmarked hblank => ⟨s.loaded rxd, ?_, ?_⟩⟩
  · exact (event_noStart hn fun u =>
      if u.page.state = .loading false then { u with page := { u.page with state := .loading true } } else u).trans
      (congrArg _ (if_pos hp))
  · exact (event_noStart hn fun u => if u.page.state = .loading true then u.loaded rxd else u).trans (congrArg _ (if_pos hp))
  have hset := loadedSettings_eq hmarked hblank
  have hwtb : (s.loaded rxd).wtb = s.wtb.loaded set := by rw [← hset]; rfl
  have hcommon : (s.wtb.loaded set).common = set.common := by
    cases h : set.timebase with
    | none => rw [wtbLoaded_none h]
    | some b => rw [wtbLoaded_some h]; rfl
  have hlink : ∀ p : Port, (s.loaded rxd).links[p] = s.links[p].started rxd[p] := fun p => mapAt_get _ _ p
  have hwatch : ∀ p : Port, (s.loaded rxd).watch[p] = EchoWatch.fresh set.echo[p] := fun p => by
    rw [← hset]; exact mapAt_get _ _ p
  have hcomposer : ∀ p : Port, (s.loaded rxd).composers[p]
      = s.composers[p].noteStatus s.watch[p].status (EchoWatch.fresh set.echo[p]).status := fun p => by
    rw [← hset]; simp only [State.loaded, mapAt_get]
  refine ⟨rfl, rfl, by rw [← hset]; rfl, by rw [hwtb, hcommon], by rw [hwtb, loaded_w], fun h => by rw [hwtb, wtbLoaded_none h],
    fun b h => ?_, by rw [← hset]; rfl, fun p => ⟨?_, fun hh => ?_, ?_, fun hu => ?_⟩, fun z => ?_, by rw [← hset]; rfl,
    by rw [← hset]; rfl, rfl, rfl⟩
  · rw [hwtb, wtbLoaded_some h]
    refine ⟨rfl, rfl, ?_⟩
    cases hb : b.source <;> simp [Wtb.start, hb]
  · rw [hlink, Link.started]
  · rw [hlink, Link.rtr, Link.started, hh]
    cases rxd[p] <;> rfl
  · rw [hwatch, fresh_eq]
  · have hstatus : (EchoWatch.fresh set.echo[p]).status ≠ .unused ↔ set.echo[p].mode ≠ .unused := by
      rw [fresh_eq]
      dsimp only
      split
      · next h => exact ⟨fun hs => absurd rfl hs, fun hm => absurd h hm⟩
      · next h => exact ⟨fun _ => h, fun _ => by simp⟩
    simp only [hcomposer, noteStatus_eq, hu, hstatus]
  · rw [← hset]; exact mapAt_get _ _ z

end Sys2Proof.Machine
end

section
/-! PROOFS. The starts of messages (R31, R124, R125): which notice a composer chooses, what a start changes on its own port and on
the others, which events start no message, and the starts that come before a later event. -/

namespace Sys2Proof.Machine

/-! ### What a port owes (R116) -/

/-- What a composer owes on its port: the owed notice of each live cue, the retired ABORTs, the STEP and the REPORT, and which of
its edit slots are DONE. -/
structure Duties where
  cues : List (Option CueNotice)
  aborts : List RetiredAbort
  composer : Composer
  results : List Bool

/-- The duties of a port's composer. -/
def State.duties (p : Port) (s : State) : Duties where
  cues := s.sched.live.map fun c => c.notices[p].owed
  aborts := s.sched.aborts[p]
  composer := s.composers[p]
  results := s.eu.slots[p].map EditSlot.isDone

/-- Whether a notice of a group is owed; the groups have the order of R124, from 1. -/
def Duties.Owes (d : Duties) : Nat → Prop
  | 1 => some .commit ∈ d.cues
  | 2 => d.aborts ≠ [] ∨ ∃ r, some (.abort r) ∈ d.cues
  | 3 => some .defer ∈ d.cues
  | 4 => some .prepare ∈ d.cues
  | 5 => d.composer.stepOwed = true
  | 6 => true ∈ d.results
  | 7 => d.composer.report ≠ none
  | _ => False

theorem mem_duties_cues {p : Port} {s : State} {notice : CueNotice} :
    some notice ∈ (s.duties p).cues ↔ ∃ c ∈ s.sched.live, c.notices[p].owed = some notice := by
  simp only [State.duties, List.mem_map]

theorem mem_duties_results {p : Port} {s : State} :
    true ∈ (s.duties p).results ↔ ∃ x ∈ s.eu.slots[p], x.isDone = true := by
  simp only [State.duties, List.mem_map]

/-- A composer that owes nothing of any group, cue by cue and slot by slot. -/
theorem owes_nothing_iff {p : Port} {s : State} :
    (∀ g, ¬ (s.duties p).Owes g) ↔ (∀ c ∈ s.sched.live, c.notices[p].owed = none) ∧ s.sched.aborts[p] = []
      ∧ s.composers[p].stepOwed = false ∧ (∀ x ∈ s.eu.slots[p], x.isDone = false) ∧ s.composers[p].report = none := by
  constructor
  · intro h
    refine ⟨fun c hc => ?_, not_not.1 fun ha => h 2 (.inl ha), Bool.eq_false_iff.2 (h 5), fun x hx => ?_, not_not.1 (h 7)⟩
    · cases ho : c.notices[p].owed with
      | none => rfl
      | some notice =>
        have hmem : some notice ∈ (s.duties p).cues := mem_duties_cues.2 ⟨c, hc, ho⟩
        cases notice with
        | commit => exact absurd hmem (h 1)
        | abort r => exact absurd (.inr ⟨r, hmem⟩) (h 2)
        | defer => exact absurd hmem (h 3)
        | prepare => exact absurd hmem (h 4)
    · exact Bool.eq_false_iff.2 fun hd => h 6 (mem_duties_results.2 ⟨x, hx, hd⟩)
  · rintro ⟨hcues, haborts, hstep, hresults, hreport⟩ g
    have hnone : ∀ notice, some notice ∉ (s.duties p).cues := fun notice hmem => by
      obtain ⟨c, hc, ho⟩ := mem_duties_cues.1 hmem
      rw [hcues c hc] at ho
      cases ho
    unfold Duties.Owes
    split
    · exact hnone _
    · rintro (ha | ⟨r, hr⟩)
      · exact ha haborts
      · exact hnone _ hr
    · exact hnone _
    · exact hnone _
    · exact Bool.eq_false_iff.1 hstep
    · intro hmem
      obtain ⟨x, hx, hd⟩ := mem_duties_results.1 hmem
      rw [hresults x hx] at hd
      cases hd
    · exact not_not.2 hreport
    · exact id

/-! ### The choice, group by group (R124) -/

/-- The group of a notice. -/
def Choice.group : Choice → Nat
  | .commit _ => 1
  | .retiredAbort _ | .liveAbort _ _ => 2
  | .defer _ => 3
  | .prepare _ => 4
  | .step => 5
  | .editResult _ _ => 6
  | .report _ _ => 7

/-- The kind code of a notice (R50, R51). -/
def Choice.code : Choice → Byte
  | .commit _ => 66
  | .retiredAbort _ | .liveAbort _ _ => 67
  | .defer _ => 65
  | .prepare _ => 64
  | .step => 70
  | .editResult _ _ => 68
  | .report _ _ => 69

/-- The groups in their order. -/
def groups : List Nat := [1, 2, 3, 4, 5, 6, 7]

theorem mem_groups {g : Nat} : g ∈ groups ↔ 1 ≤ g ∧ g ≤ 7 := by
  simp only [groups, List.mem_cons, List.not_mem_nil, or_false]
  omega

theorem group_mem (x : Choice) : x.group ∈ groups := by
  cases x <;> simp [Choice.group, groups]

/-- What the composer of a port would send of a group. -/
def State.inGroup (p : Port) (s : State) : Nat → Option Choice
  | 1 => (earliestOwing p .commit s.sched.live).map .commit
  | 2 => ((s.sched.aborts[p].head?).map .retiredAbort).or (earliestAbort p s.sched.live)
  | 3 => (earliestOwing p .defer s.sched.live).map .defer
  | 4 => (earliestOwing p .prepare s.sched.live).map .prepare
  | 5 => if s.composers[p].stepOwed then some .step else none
  | 6 => earliestResult s.eu.slots[p]
  | 7 => s.composers[p].report.map fun r => .report r.1 r.2
  | _ => none

/-- The composer chooses from the first group of which it owes a notice (R124). -/
theorem choose_eq_findSome (p : Port) (s : State) : s.choose p = groups.findSome? (s.inGroup p) := by
  have hcons : ∀ (g : Nat) (l : List Nat), (g :: l).findSome? (s.inGroup p) = (s.inGroup p g).or (l.findSome? (s.inGroup p)) :=
    fun g l => by rw [List.findSome?_cons]; cases s.inGroup p g <;> rfl
  simp only [State.choose, groups, hcons, List.findSome?_nil, State.inGroup, Option.orElse_eq_orElse, Option.orElse_eq_or,
    Option.or_assoc, Option.or_none]

theorem earliestOwing_eq_none {p : Port} {notice : CueNotice} {s : State} :
    earliestOwing p notice s.sched.live = none ↔ some notice ∉ (s.duties p).cues := by
  simp only [mem_duties_cues, earliestOwing, List.find?_eq_none, decide_eq_true_eq, not_exists, not_and]

theorem owedAbort_eq_some {p : Port} {c : Cue} {r : AbortReason} :
    c.owedAbort p = some r ↔ c.notices[p].owed = some (.abort r) := by
  unfold Cue.owedAbort
  split
  · next r' h => rw [h]; simp
  all_goals next h => rw [h]; simp

theorem earliestAbort_eq_none {p : Port} {s : State} :
    earliestAbort p s.sched.live = none ↔ ∀ r, some (.abort r) ∉ (s.duties p).cues := by
  have hcue : ∀ c : Cue, c.owedAbort p = none ↔ ∀ r, ¬ c.notices[p].owed = some (.abort r) := fun c => by
    simp only [Option.eq_none_iff_forall_ne_some, ne_eq, owedAbort_eq_some]
  simp only [mem_duties_cues, earliestAbort, List.findSome?_eq_none_iff, Option.map_eq_none_iff, hcue, not_exists, not_and]
  exact ⟨fun h r c hc => h c hc r, fun h c hc r => h r c hc⟩

theorem earliestResult_eq_none {p : Port} {s : State} :
    earliestResult s.eu.slots[p] = none ↔ true ∉ (s.duties p).results := by
  simp only [mem_duties_results, earliestResult, List.findSome?_eq_none_iff, not_exists, not_and]
  refine forall₂_congr fun x _ => ?_
  cases h : x.status <;> simp [EditSlot.isDone, h]

/-- A group gives a notice exactly where the port owes one of it. -/
theorem inGroup_eq_none {p : Port} {s : State} {g : Nat} : s.inGroup p g = none ↔ ¬ (s.duties p).Owes g := by
  unfold State.inGroup Duties.Owes
  split
  · rw [Option.map_eq_none_iff, earliestOwing_eq_none]
  · rw [Option.or_eq_none_iff, Option.map_eq_none_iff, List.head?_eq_none_iff, earliestAbort_eq_none, not_or, not_not, not_exists]
    rfl
  · rw [Option.map_eq_none_iff, earliestOwing_eq_none]
  · rw [Option.map_eq_none_iff, earliestOwing_eq_none]
  · simp [State.duties]
  · exact earliestResult_eq_none
  · simp [State.duties]
  · simp

theorem earliestAbort_group {p : Port} {live : List Cue} {x : Choice} (h : earliestAbort p live = some x) : x.group = 2 := by
  obtain ⟨c, _, hc⟩ := List.exists_of_findSome?_eq_some h
  obtain ⟨r, _, rfl⟩ := Option.map_eq_some_iff.1 hc
  rfl

theorem earliestResult_group {slots : List EditSlot} {x : Choice} (h : earliestResult slots = some x) : x.group = 6 := by
  obtain ⟨slot, _, hs⟩ := List.exists_of_findSome?_eq_some h
  split at hs <;> cases hs
  rfl

/-- A group gives a notice of its own. -/
theorem inGroup_group {p : Port} {s : State} {g : Nat} {x : Choice} (h : s.inGroup p g = some x) : x.group = g := by
  unfold State.inGroup at h
  split at h
  case h_2 =>
    rcases Option.or_eq_some_iff.1 h with h | ⟨_, h⟩
    · obtain ⟨a, _, rfl⟩ := Option.map_eq_some_iff.1 h; rfl
    · exact earliestAbort_group h
  case h_5 => split at h <;> cases h; rfl
  case h_6 => exact earliestResult_group h
  case h_8 => cases h
  all_goals
    obtain ⟨a, _, rfl⟩ := Option.map_eq_some_iff.1 h
    rfl

/-- The notice chosen is of a group that owes one, and no group above it does (R124). -/
theorem choose_first {p : Port} {s : State} {x : Choice} (h : s.choose p = some x) :
    (s.duties p).Owes x.group ∧ ∀ g, 1 ≤ g → g < x.group → ¬ (s.duties p).Owes g := by
  rw [choose_eq_findSome] at h
  obtain ⟨above, g, below, hsplit, hg, habove⟩ := List.findSome?_eq_some_iff.1 h
  have hgroup := inGroup_group hg
  subst hgroup
  have howes : (s.duties p).Owes x.group := not_not.1 fun hno => by rw [inGroup_eq_none.2 hno] at hg; cases hg
  refine ⟨howes, fun k hk hlt => inGroup_eq_none.1 (habove k ?_)⟩
  have hmem : k ∈ above ++ x.group :: below := hsplit ▸ mem_groups.2 ⟨hk, hlt.le.trans (mem_groups.1 (group_mem x)).2⟩
  have hsorted : (above ++ x.group :: below).Pairwise (· < ·) := hsplit ▸ by decide
  rcases List.mem_append.1 hmem with hk | hk
  · exact hk
  · rcases List.mem_cons.1 hk with rfl | hk
    · exact absurd hlt (lt_irrefl _)
    · exact absurd hlt (not_lt.2 (List.rel_of_pairwise_cons (List.pairwise_append.1 hsorted).2.1 hk).le)

/-- Nothing is owed beyond the seven groups. -/
theorem owes_group {d : Duties} {g : Nat} (h : d.Owes g) : g ∈ groups := by
  unfold Duties.Owes at h
  split at h
  case h_8 => exact h.elim
  all_goals decide

theorem choose_eq_none {p : Port} {s : State} : s.choose p = none ↔ ∀ g, ¬ (s.duties p).Owes g := by
  rw [choose_eq_findSome, List.findSome?_eq_none_iff]
  exact ⟨fun h g ho => inGroup_eq_none.1 (h g (owes_group ho)) ho, fun h g _ => inGroup_eq_none.2 (h g)⟩

/-- The group that is chosen from is the first one of which a notice is owed (R124). -/
theorem choose_of_first {p : Port} {s : State} {g : Nat} (hg : 1 ≤ g) (ho : (s.duties p).Owes g)
    (hfirst : ∀ k, 1 ≤ k → k < g → ¬ (s.duties p).Owes k) : ∃ x, s.choose p = some x ∧ x.group = g := by
  cases hc : s.choose p with
  | none => exact absurd ho (choose_eq_none.1 hc g)
  | some x =>
    obtain ⟨hox, hx⟩ := choose_first hc
    refine ⟨x, rfl, le_antisymm (not_lt.1 fun hlt => hx g hg hlt ho) (not_lt.1 fun hlt => ?_)⟩
    exact hfirst x.group (mem_groups.1 (group_mem x)).1 hlt hox

/-! ### The lines under the shared operations -/

/-- The part of a port that decides whether it may send (R31): its transmitter and the level of CTS. -/
def Link.line (l : Link) : TxState × Bool := (l.tx, l.cts)

theorem tx_of_line {k l : Link} (h : k.line = l.line) : k.tx = l.tx := congrArg Prod.fst h

theorem modifyLink_line {f : Link → Link} (hf : ∀ l, (f l).line = l.line) (p q : Port) (s : State) :
    (s.modifyLink p f).links[q].line = s.links[q].line := by
  rw [modifyLink_get]
  split
  · exact hf _
  · rfl

theorem arbitrate_links (s : State) : s.arbitrate.links = s.links := by
  rw [arbitrate_frame]

theorem refill_line (p q : Port) (s : State) : (s.refill p).links[q].line = s.links[q].line := by
  rcases refill_cases p s with h | ⟨m, _, _, h⟩ <;> rw [h]
  exact modifyLink_line (f := fun l => { l with holding := none }) (fun _ => rfl) p q _

theorem finishEdit_line (p q : Port) (outcome : EditOutcome) (s : State) :
    (s.finishEdit p outcome).links[q].line = s.links[q].line := by
  rw [State.finishEdit, arbitrate_links]
  exact refill_line p q _

/-- What an ACCEPTED edit does leaves the links alone. -/
def KeepsLinks (apply : Port → Message → State → State) : Prop :=
  ∀ p m s, (apply p m s).links = s.links

theorem complete_line {kind : RequestKind} {outcome : Port → Message → State → EditOutcome}
    {apply : Port → Message → State → State} (h : KeepsLinks apply) (q : Port) (s : State) :
    (s.complete kind outcome apply).links[q].line = s.links[q].line := by
  rcases complete_cases kind outcome apply s with hc | ⟨p, slot, _, _, _, ⟨_, hc⟩ | ⟨_, hc⟩⟩ <;> rw [hc]
  · rw [finishEdit_line, h]
  · rw [finishEdit_line]

theorem completeSave_line (outcome : EditOutcome) (q : Port) (s : State) :
    (s.completeSave outcome).links[q].line = s.links[q].line := by
  unfold State.completeSave
  split
  · rfl
  · exact finishEdit_line _ q outcome s

theorem link_receive_line (ch : LineChar) (l : Link) : (l.receive ch).1.line = l.line := by
  rcases link_receive_cases ch l with ⟨_, h⟩ | ⟨_, _, h⟩ | ⟨_, _, _, h⟩ | ⟨_, _, _, h⟩ <;> rw [h]
  · rfl
  · rw [markCharacter_eq]; rfl
  · rw [dataCharacter_frame]; rfl

theorem deliver_line (p q : Port) (m : Message) (s : State) : (s.deliver p m).links[q].line = s.links[q].line := by
  have hplace : (s.placeEdit p m).links[q].line = s.links[q].line := by
    unfold State.placeEdit
    split
    · simp only [arbitrate_links, modifySlots_links]
    · exact modifyLink_line (f := fun l => { l with holding := some m }) (fun _ => rfl) p q s
  have hanswer : ∀ id entry, (s.answer p id entry).links[q].line = s.links[q].line := fun id entry => by
    rcases answer_cases p id entry s with ⟨_, h⟩ | ⟨_, h⟩ | h <;> rw [h]
    exact modifyLink_line (f := fun l => { l with flags := { l.flags with stray := true } }) (fun _ => rfl) p q s
  rcases deliver_cases p m s with ⟨_, h⟩ | ⟨_, h⟩ <;> rw [h]
  · exact modifyLink_line (f := fun l => { l with flags := { l.flags with overrun := true } }) (fun _ => rfl) p q s
  · unfold State.dispatch
    split
    · rfl
    · exact hanswer _ _
    · exact hanswer _ _
    · rfl
    all_goals exact hplace

theorem receive_line (p q : Port) (ch : LineChar) (s : State) : (s.receive p ch).links[q].line = s.links[q].line := by
  have hset : (s.links.set p (s.links[p].receive ch).1)[q].line = s.links[q].line := by
    rw [set_get]
    split
    · next hq => rw [hq, link_receive_line]
    · rfl
  unfold State.receive
  dsimp only
  split
  · exact hset
  · rw [deliver_line]; exact hset

/-! ### A start on its own port and on the others -/

theorem transmit_get (p q : Port) (kind : Byte) (rest : List Byte) (s : State) :
    (s.transmit p kind rest).links[q] = if q = p then { s.links[q] with tx := .sending (outgoing true kind) rest } else s.links[q] :=
  modifyLink_get p q _ s

theorem reportEffects_line (subject : Option Subject) (q : Port) (s : State) :
    (s.reportEffects subject).links[q].line = s.links[q].line := by
  unfold State.reportEffects
  split
  · exact modifyLink_line (f := fun l => { l with flags := .clear }) (fun _ => rfl) _ q s
  all_goals rfl

/-- A sending puts the first character of its notice on the line of its port (R30, R31). -/
theorem send_tx (p : Port) (x : Choice) (s : State) :
    ∃ rest, (s.send p x).links[p].tx = .sending (outgoing true x.code) rest := by
  have htransmit : ∀ (kind : Byte) (rest : List Byte) (u : State),
      (u.transmit p kind rest).links[p].tx = .sending (outgoing true kind) rest := fun kind rest u => by
    rw [transmit_get, if_pos rfl]
  cases x with
  | editResult slot outcome =>
    refine ⟨editResultChars slot outcome, ?_⟩
    have hline := refill_line p p ((s.transmit p 68 (editResultChars slot outcome)).modifySlots p dropFirstDone)
    rw [State.send, arbitrate_links]
    exact (tx_of_line hline).trans (htransmit _ _ _)
  | _ => exact ⟨_, htransmit _ _ _⟩

/-- A sending leaves the lines of the other ports as they are. -/
theorem send_line_other {p q : Port} (hq : q ≠ p) (x : Choice) (s : State) :
    (s.send p x).links[q].line = s.links[q].line := by
  have htransmit : ∀ (kind : Byte) (rest : List Byte) (u : State), (u.transmit p kind rest).links[q].line = u.links[q].line :=
    fun kind rest u => by rw [transmit_get, if_neg hq]
  cases x with
  | editResult slot outcome =>
    rw [State.send, arbitrate_links, refill_line]
    exact htransmit _ _ _
  | report subject index => exact (htransmit _ _ _).trans (reportEffects_line _ q s)
  | _ => exact htransmit _ _ _

/-- The arbiter makes no slot DONE and frees none (R74). -/
theorem activateHead_isDone (l : List EditSlot) : (activateHead l).map EditSlot.isDone = l.map EditSlot.isDone := by
  induction l with
  | nil => rfl
  | cons x xs ih =>
    rw [activateHead]
    split
    · next hs => simp [EditSlot.isDone, hs]
    · rw [List.map_cons, ih, List.map_cons]

/-- What a port owes reads the schedule, its composer, and which of its slots are DONE. -/
theorem duties_congr {s t : State} {q : Port} (hsched : t.sched = s.sched) (hcomposer : t.composers[q] = s.composers[q])
    (hslots : t.eu.slots[q].map EditSlot.isDone = s.eu.slots[q].map EditSlot.isDone) : t.duties q = s.duties q := by
  simp only [State.duties, hsched, hcomposer, hslots]

theorem arbitrate_duties (q : Port) (s : State) : s.arbitrate.duties q = s.duties q := by
  rcases arbitrate_cases s with h | ⟨p, slot, _, _, _, ⟨_, h⟩ | ⟨_, h⟩⟩ <;> rw [h]
  all_goals
    refine duties_congr rfl rfl ?_
    rw [modifyAt_get]
    split
    · exact activateHead_isDone _
    · rfl

theorem modifySlots_duties_other {p q : Port} (hq : q ≠ p) (f : List EditSlot → List EditSlot) (s : State) :
    (s.modifySlots p f).duties q = s.duties q :=
  duties_congr rfl rfl (by rw [modifySlots_get, if_neg hq])

theorem refill_duties_other {p q : Port} (hq : q ≠ p) (s : State) : (s.refill p).duties q = s.duties q := by
  rcases refill_cases p s with h | ⟨m, _, _, h⟩ <;> rw [h]
  exact modifySlots_duties_other hq _ s

theorem reportEffects_keeps (subject : Option Subject) (s : State) :
    (s.reportEffects subject).sched = s.sched ∧ (s.reportEffects subject).eu = s.eu := by
  unfold State.reportEffects
  split <;> exact ⟨rfl, rfl⟩

theorem cueNoticeSent_duties_other {p q : Port} (hq : q ≠ p) (id : Byte) (s : State) :
    (s.cueNoticeSent p id).duties q = s.duties q := by
  simp only [State.duties, State.cueNoticeSent, Schedule.updateCue, List.map_map, Duties.mk.injEq, and_true]
  refine List.map_congr_left fun c _ => ?_
  simp only [Function.comp]
  split
  · simp only [modifyAt_other _ hq]
  · rfl

/-- A sending leaves what the other ports owe as it is. -/
theorem send_duties_other {p q : Port} (hq : q ≠ p) (x : Choice) (s : State) : (s.send p x).duties q = s.duties q := by
  have hcomposer : ∀ (f : Composer → Composer) (u : State),
      State.duties q { u with composers := modifyAt u.composers p f } = u.duties q := fun f u =>
    duties_congr rfl (modifyAt_other _ hq f) rfl
  cases x with
  | commit c | liveAbort c r | defer c | prepare c => exact cueNoticeSent_duties_other hq c.id s
  | retiredAbort a =>
    simp only [State.duties, State.send, State.retiredAbortSent, transmit_sched, transmit_composers, transmit_eu, modifyAt_other _ hq]
  | step => exact hcomposer _ s
  | editResult slot outcome =>
    rw [State.send, arbitrate_duties, refill_duties_other hq, modifySlots_duties_other hq]
    rfl
  | report subject index =>
    obtain ⟨hsched, heu⟩ := reportEffects_keeps (subjectOf subject index) s
    exact duties_congr hsched (modifyAt_other _ hq _) (congrArg (fun eu : EditUnit => eu.slots[q].map EditSlot.isDone) heu)

/-- Whether a port sends reads its line and what it owes (R31, R124). -/
theorem chosen_eq_none {p : Port} {s : State} :
    s.chosen p = none ↔ s.links[p].line = (.idle, true) → ∀ g, ¬ (s.duties p).Owes g := by
  rw [← choose_eq_none, Option.eq_none_iff_forall_ne_some]
  simp only [ne_eq, chosen_iff, Link.line, Prod.mk.injEq]
  constructor
  · exact fun h hline => Option.eq_none_iff_forall_ne_some.2 fun x hx => h x ⟨hline.1, hline.2, hx⟩
  · rintro h x ⟨htx, hcts, hx⟩
    rw [h ⟨htx, hcts⟩] at hx
    cases hx

theorem chosen_congr {p : Port} {s t : State} (hline : t.links[p].line = s.links[p].line) (hduties : t.duties p = s.duties p) :
    t.chosen p = none ↔ s.chosen p = none := by
  rw [chosen_eq_none, chosen_eq_none, hline, hduties]

/-- A start leaves the lines of the other ports, and what they owe, as they are. -/
theorem startOn_other {p q : Port} (hq : q ≠ p) (s : State) :
    (s.startOn p).links[q].line = s.links[q].line ∧ (s.startOn p).duties q = s.duties q := by
  rcases startOn_cases p s with ⟨_, h⟩ | ⟨x, _, h⟩ <;> rw [h]
  · exact ⟨rfl, rfl⟩
  · exact ⟨send_line_other hq x s, send_duties_other hq x s⟩

theorem startOn_chosen_other {p q : Port} (hq : q ≠ p) (s : State) : (s.startOn p).chosen q = none ↔ s.chosen q = none :=
  chosen_congr (startOn_other hq s).1 (startOn_other hq s).2

/-- A port that has a start due sends after it (R31). -/
theorem startOn_tx {p : Port} {s : State} (h : s.chosen p ≠ none) :
    ∃ kind rest, (s.startOn p).links[p].tx = .sending (outgoing true kind) rest := by
  rcases startOn_cases p s with ⟨hc, _⟩ | ⟨x, _, hs⟩
  · exact absurd hc h
  · obtain ⟨rest, ht⟩ := send_tx p x s
    exact ⟨x.code, rest, by rw [hs, ht]⟩

/-- After the start on a port none is due there. -/
theorem startOn_chosen (p : Port) (s : State) : (s.startOn p).chosen p = none := by
  rcases startOn_cases p s with ⟨hc, hs⟩ | ⟨x, _, hs⟩ <;> rw [hs]
  · exact hc
  · obtain ⟨rest, ht⟩ := send_tx p x s
    exact chosen_of_busy (by rw [ht]; simp)

/-! ### The seven send commands -/

/-- The send command of a group. -/
def sendCommand (p : Port) : Nat → Instr
  | 1 => .commit p
  | 2 => .abort p
  | 3 => .defer p
  | 4 => .prepare p
  | 5 => .step p
  | 6 => .editResult p
  | _ => .report p

theorem sendPort_sendCommand (p : Port) (g : Nat) : sendPort (sendCommand p g) = some p := by
  unfold sendCommand
  split <;> rfl

/-- A send command of a group sends the notice chosen when it is of its group, and else changes nothing. -/
theorem exec_sendCommand {g : Nat} (hg : g ∈ groups) (p : Port) (s : State) :
    exec (sendCommand p g) s = .next (match s.chosen p with
      | some x => if x.group = g then s.send p x else s
      | none => s) := by
  obtain rfl | rfl | rfl | rfl | rfl | rfl | rfl : g = 1 ∨ g = 2 ∨ g = 3 ∨ g = 4 ∨ g = 5 ∨ g = 6 ∨ g = 7 := by
    simpa [groups] using hg
  all_goals
    simp only [sendCommand, exec, execCommit, execAbort, execDefer, execPrepare, execStep, execEditResult, execReport]
    cases s.chosen p with
    | none => rfl
    | some x => cases x <;> rfl

theorem exec_sendCommand_chosen {p : Port} {s : State} {x : Choice} (h : s.chosen p = some x) :
    exec (sendCommand p x.group) s = .next (s.send p x) := by
  rw [exec_sendCommand (group_mem x), h]
  exact congrArg _ (if_pos rfl)

theorem exec_sendCommand_idle {p : Port} {s : State} {g : Nat} (hg : g ∈ groups) (h : ∀ x, s.chosen p = some x → x.group ≠ g) :
    exec (sendCommand p g) s = .next s := by
  rw [exec_sendCommand hg]
  cases hc : s.chosen p with
  | none => rfl
  | some x => exact congrArg _ (if_neg (h x hc))

theorem code_toNat (x : Choice) : x.code.toNat = [66, 67, 65, 64, 70, 68, 69].getD (x.group - 1) 0 := by
  cases x <;> rfl

/-- Settles O42: the composer chooses from the first group of which it owes a notice, and the send command of that group alone
sends. -/
theorem sendsFollowPriority : Obligations.SendsFollowPriority := by
  unfold Obligations.SendsFollowPriority
  rintro s p _ owes rfl h1 h2 h3 h4 h5 h6 h7 group i hi
  have habort : (∃ c ∈ s.sched.live, ∃ r, c.notices[p].owed = some (.abort r)) ↔ ∃ r, some (.abort r) ∈ (s.duties p).cues := by
    simp only [mem_duties_cues]
    exact ⟨fun ⟨c, hc, r, hr⟩ => ⟨r, c, hc, hr⟩, fun ⟨r, c, hc, hr⟩ => ⟨c, hc, r, hr⟩⟩
  have howes : ∀ g, 1 ≤ g → g ≤ 7 → (owes g ↔ (s.duties p).Owes g) := by
    intro g hlo hhi
    interval_cases g
    · exact h1.trans mem_duties_cues.symm
    · exact h2.trans (or_congr Iff.rfl habort)
    · exact h3.trans mem_duties_cues.symm
    · exact h4.trans mem_duties_cues.symm
    · exact h5
    · exact h6.trans mem_duties_results.symm
    · exact h7
  obtain ⟨hg, rfl⟩ : group ∈ groups ∧ i = sendCommand p group := by
    simp only [List.mem_cons, Prod.mk.injEq, List.not_mem_nil, or_false] at hi
    rcases hi with ⟨rfl, rfl⟩ | ⟨rfl, rfl⟩ | ⟨rfl, rfl⟩ | ⟨rfl, rfl⟩ | ⟨rfl, rfl⟩ | ⟨rfl, rfl⟩ | ⟨rfl, rfl⟩ <;>
      exact ⟨by decide, rfl⟩
  obtain ⟨hlo, hhi⟩ := mem_groups.1 hg
  refine ⟨_, exec_sendCommand hg p s, fun htx hcts ho hfirst => ?_, fun hno => ?_⟩
  · obtain ⟨x, hx, rfl⟩ := choose_of_first hlo ((howes group hlo hhi).1 ho) fun k hk hlt hok =>
      hfirst k hk hlt ((howes k hk (by omega)).2 hok)
    obtain ⟨rest, ht⟩ := send_tx p x s
    rw [(chosen_iff p s x).2 ⟨htx, hcts, hx⟩]
    exact ⟨x.code, rest, by rw [← ht]; exact congrArg (fun u : State => u.links[p].tx) (if_pos rfl), code_toNat x⟩
  · have hidle : ∀ x, s.chosen p = some x → x.group ≠ group := by
      rintro x hx rfl
      obtain ⟨htx, hcts, hchoose⟩ := (chosen_iff p s x).1 hx
      obtain ⟨ho, hfirst⟩ := choose_first hchoose
      rcases hno with h | h | h | ⟨k, hk, hlt, hok⟩
      · exact h htx
      · rw [h] at hcts; cases hcts
      · exact h ((howes _ hlo hhi).2 ho)
      · exact hfirst k hk hlt ((howes k hk (by omega)).1 hok)
    exact Host.Outcome.next.inj ((exec_sendCommand hg p s).symm.trans (exec_sendCommand_idle hg hidle))

/-! ### The starts that are due -/

/-- The starts on some ports one after the other (R31). -/
def State.startAll (ps : List Port) (s : State) : State :=
  ps.foldl (fun t p => t.startOn p) s

theorem startDue_eq (s : State) : s.startDue = s.startAll allPorts := rfl

/-- The starts of other ports leave a port as it is. -/
theorem startAll_other {q : Port} : ∀ {ps : List Port}, q ∉ ps → ∀ s : State,
    (s.startAll ps).links[q].line = s.links[q].line ∧ (s.startAll ps).duties q = s.duties q
  | [], _, _ => ⟨rfl, rfl⟩
  | p :: ps, hq, s => by
    obtain ⟨hline, hduties⟩ := startAll_other (List.not_mem_of_not_mem_cons hq) (s.startOn p)
    obtain ⟨hline', hduties'⟩ := startOn_other (List.ne_of_not_mem_cons hq) s
    exact ⟨hline.trans hline', hduties.trans hduties'⟩

/-- After the starts on some ports none is due on them. -/
theorem startAll_chosen {q : Port} : ∀ {ps : List Port}, q ∈ ps → ∀ s : State, (s.startAll ps).chosen q = none
  | p :: ps, hq, s => by
    by_cases hmem : q ∈ ps
    · exact startAll_chosen hmem (s.startOn p)
    · obtain rfl : q = p := (List.mem_cons.1 hq).resolve_right hmem
      obtain ⟨hline, hduties⟩ := startAll_other hmem (s.startOn q)
      exact (chosen_congr hline hduties).2 (startOn_chosen q s)

/-- A port that has no start due keeps its line while the others start. -/
theorem startAll_line {q : Port} : ∀ (ps : List Port) {s : State}, s.chosen q = none →
    (s.startAll ps).links[q].line = s.links[q].line
  | [], _, _ => rfl
  | p :: ps, s, h => by
    by_cases hq : q = p
    · subst hq
      have hs : s.startOn q = s := startOn_of_not_chosen h
      exact (congrArg (fun u : State => (u.startAll ps).links[q].line) hs).trans (startAll_line ps h)
    · exact (startAll_line ps ((startOn_chosen_other hq s).2 h)).trans (startOn_other hq s).1

/-- A port that has a start due sends after it. -/
theorem startAll_tx {q : Port} : ∀ {ps : List Port}, q ∈ ps → ∀ {s : State}, s.chosen q ≠ none →
    ∃ kind rest, (s.startAll ps).links[q].tx = .sending (outgoing true kind) rest
  | p :: ps, hq, s, h => by
    by_cases hp : q = p
    · subst hp
      obtain ⟨kind, rest, ht⟩ := startOn_tx h
      have hline := startAll_line ps (startOn_chosen q s)
      exact ⟨kind, rest, (tx_of_line hline).trans ht⟩
    · exact startAll_tx ((List.mem_cons.1 hq).resolve_left hp) fun hc => h ((startOn_chosen_other hp s).1 hc)

/-- A start is what a send command of its port does. -/
theorem exists_startOn_command (p : Port) (s : State) : ∃ i, sendPort i = some p ∧ runCommand s i = s.startOn p := by
  rcases startOn_cases p s with ⟨hc, hs⟩ | ⟨x, hc, hs⟩ <;> rw [hs]
  · exact ⟨.step p, rfl, by simp only [runCommand, exec, execStep, hc]⟩
  · exact ⟨sendCommand p x.group, sendPort_sendCommand p _, by rw [runCommand, exec_sendCommand_chosen hc]⟩

/-- The starts on some ports are what at most one send command a port does, in their order. -/
theorem exists_startAll_commands : ∀ {ps : List Port}, ps.Nodup → ∀ s : State,
    ∃ sends : List Instr, sends.foldl runCommand s = s.startAll ps
      ∧ (∀ i ∈ sends, ∃ p, sendPort i = some p ∧ s.chosen p ≠ none) ∧ (sends.filterMap sendPort).Sublist ps
  | [], _, s => ⟨[], rfl, by simp, by simp⟩
  | p :: ps, hps, s => by
    obtain ⟨hp, hps⟩ := List.nodup_cons.1 hps
    obtain ⟨sends, hrun, hsends, hsub⟩ := exists_startAll_commands hps (s.startOn p)
    have hearlier : ∀ i ∈ sends, ∃ q, sendPort i = some q ∧ s.chosen q ≠ none := fun i hi => by
      obtain ⟨q, hq, hc⟩ := hsends i hi
      have hne : q ≠ p := fun he => hc (he ▸ startOn_chosen p s)
      exact ⟨q, hq, fun h => hc ((startOn_chosen_other hne s).2 h)⟩
    by_cases hc : s.chosen p = none
    · have hs : s.startOn p = s := startOn_of_not_chosen hc
      exact ⟨sends, by rw [hs] at hrun; rw [hrun]; exact congrArg (State.startAll ps) hs.symm, hearlier, hsub.cons p⟩
    · obtain ⟨i, hi, hrun'⟩ := exists_startOn_command p s
      refine ⟨i :: sends, by rw [List.foldl_cons, hrun', hrun]; rfl, ?_, by rw [List.filterMap_cons_some hi]; exact hsub.cons_cons p⟩
      rintro j (_ | ⟨_, hj⟩)
      · exact ⟨p, hi, hc⟩
      · exact hearlier j hj

/-! ### Events that start no message -/

/-- From `s` to `t` no message starts on a port: what has its first character on the line had it before. -/
def NoStartFrom (p : Port) (s t : State) : Prop :=
  ∀ kind rest, t.links[p].tx = .sending (outgoing true kind) rest → s.links[p].tx = .sending (outgoing true kind) rest

theorem noStartFrom_of_line {p : Port} {s t : State} (h : t.links[p].line = s.links[p].line) : NoStartFrom p s t :=
  fun _ _ ht => (tx_of_line h).symm.trans ht

theorem noStartFrom_of_links {p : Port} {s t : State} (h : t.links = s.links) : NoStartFrom p s t :=
  noStartFrom_of_line (by rw [h])

/-- A change of a port's link under which no message starts. -/
theorem noStartFrom_modifyLink {f : Link → Link}
    (hf : ∀ l kind rest, (f l).tx = .sending (outgoing true kind) rest → l.tx = .sending (outgoing true kind) rest)
    (p q : Port) (s : State) : NoStartFrom q s (s.modifyLink p f) := by
  intro kind rest ht
  rw [modifyLink_get] at ht
  split at ht
  · exact hf _ kind rest ht
  · exact ht

/-- The next character of a message is not a first one (R20, R30). -/
theorem stopBitEnd_starts_nothing (l : Link) (kind : Byte) (rest : List Byte)
    (h : l.stopBitEnd.tx = .sending (outgoing true kind) rest) : l.tx = .sending (outgoing true kind) rest := by
  unfold Link.stopBitEnd at h
  split at h
  · split at h <;> simp [outgoing] at h
  · cases h
  all_goals exact h

theorem messageEnd_starts_nothing (l : Link) (kind : Byte) (rest : List Byte)
    (h : l.messageEnd.tx = .sending (outgoing true kind) rest) : l.tx = .sending (outgoing true kind) rest := by
  unfold Link.messageEnd at h
  split at h
  · cases h
  all_goals exact h

theorem portReset_starts_nothing (l : Link) (kind : Byte) (rest : List Byte)
    (h : l.portReset.tx = .sending (outgoing true kind) rest) : l.tx = .sending (outgoing true kind) rest := by
  simp only [Link.portReset] at h
  unfold TxState.abandon at h
  split at h
  · cases h
  · next ht => rw [ht]; exact h
  all_goals cases h

theorem keepsLinks_cuePut : KeepsLinks cuePutApply := fun p m s => by
  unfold cuePutApply; split <;> rfl

theorem keepsLinks_cueDrop : KeepsLinks cueDropApply := fun p m s => by
  unfold cueDropApply; split <;> rfl

theorem keepsLinks_zoneSet : KeepsLinks zoneSetApply := fun p m s => by
  unfold zoneSetApply; split <;> rfl

theorem keepsLinks_wallSet : KeepsLinks wallSetApply := fun p m s => by
  unfold wallSetApply State.acceptWall
  split
  · rfl
  · split <;> rfl

theorem keepsLinks_phaseSet : KeepsLinks phaseSetApply := fun p m s => by
  unfold phaseSetApply; split <;> rfl

theorem keepsLinks_permit : KeepsLinks permitApply := fun p m s => by
  unfold permitApply; split <;> rfl

/-- An event that falls together with the one before it is its effect on the state as it stands. -/
theorem noStartFrom_event {m : Moment} {f : State → State} {s t : State} {p : Port} (hm : some m = some Moment.together)
    (he : s.event m f = .next t) (hf : NoStartFrom p s (f s)) : NoStartFrom p s t := by
  cases hm
  cases he
  exact hf

/-- No event starts a message that falls together with the event before it, but a change of CTS on its own port (R31). -/
theorem exec_together_noStartFrom {i : Instr} {s t : State} {p : Port} (hm : momentOf i = some .together)
    (hcts : ∀ level, i ≠ .ctsAsserted p level .together) (he : exec i s = .next t) : NoStartFrom p s t := by
  rw [exec.eq_def] at he
  cases i with
  | prepare | defer | commit | abort | editResult | report | step => cases hm
  | powerOnReset | pinReset =>
    refine noStartFrom_event hm he fun kind rest ht => ?_
    simp only [State.resetBlocks, mapAt_get, Link.reset, reduceCtorEq] at ht
  | loadStart m => exact noStartFrom_event hm he (noStartFrom_of_links (by split <;> rfl))
  | loadEnd rxd m =>
    refine noStartFrom_event hm he (noStartFrom_of_line ?_)
    split
    · simp only [State.loaded, mapAt_get]; rfl
    · rfl
  | freeRunningStrobe | lateLimitStrobe | relockFrameLimit =>
    exact noStartFrom_event hm he (noStartFrom_of_links (by split <;> rfl))
  | referenceEdge => exact noStartFrom_event hm he (noStartFrom_of_links (by dsimp only; split <;> rfl))
  | intervalTooLong | framePulseEnd | erase | program | conversionEnd | wrap =>
    exact noStartFrom_event hm he (noStartFrom_of_links rfl)
  | receivedCharacter q ch m => exact noStartFrom_event hm he (noStartFrom_of_line (receive_line q p ch s))
  | editArrival q b m | ready q b m | unready q b m | query q b m =>
    refine noStartFrom_event hm he (noStartFrom_of_line ?_)
    split
    · exact receive_line q p _ s
    · rfl
  | lineBreak q m =>
    refine noStartFrom_event hm he ?_
    split
    · exact noStartFrom_modifyLink portReset_starts_nothing q p s
    · exact noStartFrom_of_links rfl
  | ctsAsserted q level m =>
    have hq : p ≠ q := by
      rintro rfl
      cases hm
      exact hcts level rfl
    refine noStartFrom_event hm he (noStartFrom_of_line ?_)
    rw [modifyLink_get, if_neg hq]
    exact (startOn_other hq s).1
  | messageEnd q m => exact noStartFrom_event hm he (noStartFrom_modifyLink messageEnd_starts_nothing q p s)
  | stopBitEnd q m => exact noStartFrom_event hm he (noStartFrom_modifyLink stopBitEnd_starts_nothing q p s)
  | returnToMark q m => exact noStartFrom_event hm he (noStartFrom_modifyLink (f := Link.returnToMark) (fun _ _ _ h => h) q p s)
  | cuePut m => exact noStartFrom_event hm he (noStartFrom_of_line (complete_line keepsLinks_cuePut p s))
  | cueDrop m => exact noStartFrom_event hm he (noStartFrom_of_line (complete_line keepsLinks_cueDrop p s))
  | zoneSet m => exact noStartFrom_event hm he (noStartFrom_of_line (complete_line keepsLinks_zoneSet p s))
  | wallSet m => exact noStartFrom_event hm he (noStartFrom_of_line (complete_line keepsLinks_wallSet p s))
  | phaseSet m => exact noStartFrom_event hm he (noStartFrom_of_line (complete_line keepsLinks_phaseSet p s))
  | permit m => exact noStartFrom_event hm he (noStartFrom_of_line (complete_line keepsLinks_permit p s))
  | lock m => exact noStartFrom_event hm he (noStartFrom_of_line (complete_line (apply := lockApply) (fun _ _ _ => rfl) p s))
  | save m =>
    refine noStartFrom_event hm he (noStartFrom_of_line ?_)
    split
    · exact completeSave_line _ p _
    · exact complete_line (fun _ _ _ => rfl) p s
  | check found m =>
    refine noStartFrom_event hm he (noStartFrom_of_line ?_)
    split
    · split
      · rfl
      · exact completeSave_line _ p _
    · rfl
  | echoEdge q ticks m => exact noStartFrom_event hm he (noStartFrom_of_links (by dsimp only; split <;> rfl))

/-! ### Events that come later -/

theorem startDue_is_settled (s : State) : s.startDue.Settled :=
  fun p => startAll_chosen (mem_allPorts p) s

/-- The starts that are due are made once. -/
theorem startDue_startDue (s : State) : s.startDue.startDue = s.startDue :=
  startDue_settled (startDue_is_settled s)

theorem event_startDue {m : Moment} (hm : m = .later) (f : State → State) (s : State) :
    s.event m f = s.startDue.event m f := by
  rw [hm, State.event, State.event, atMoment_later, atMoment_later, startDue_startDue]

/-- A later command finds the starts that are due already made (log 10). -/
theorem exec_later {i : Instr} (hm : momentOf i = some .later) (s : State) : exec i s = exec i s.startDue := by
  rw [exec.eq_def, exec.eq_def]
  cases i with
  | prepare | defer | commit | abort | editResult | report | step => cases hm
  | _ => exact event_startDue (Option.some.inj hm) _ s

/-- An empty queue on which no frame ends: the starts that are due, then a base period (R1, R31). -/
theorem elapse_startDue {s : State} (h : s.wtb.frameDue = false) : s.elapse = s.startDue.elapse := by
  have hlate : s.startDue.wtb.frameDue = false := (frameDue_startDue s).trans h
  simp only [State.elapse, h, hlate, Bool.false_eq_true, if_false, startDue_startDue]

/-- Settles O14: a sending leaves the lines and the duties of the other ports alone, so the starts that are due are made port by
port, each where one was due at first. -/
theorem startsComeFirst : Obligations.StartsComeFirst := by
  unfold Obligations.StartsComeFirst
  intro s
  have hstep : ∀ u : State, u.pending = [] → step u = .next u.elapse := fun u hu => by rw [step, hu]
  refine ⟨forall_congr' fun p => ?_, startDue_is_settled s, startDue_settled, fun i hi => exec_later hi s,
    fun i t p kind rest hi hcts he => exec_together_noStartFrom hi hcts he kind rest, fun p level => ?_, fun hq hw => ?_,
    fun hq hrun hlimit => ?_, fun p hp => ?_, fun p hp => startAll_tx (mem_allPorts p) hp, ?_⟩
  · rw [chosen_eq_none, owes_nothing_iff, Link.line, Prod.mk.injEq, and_imp]
  · obtain ⟨i, hi, hrun⟩ := exists_startOn_command p s
    have hcts : ∀ u : State, exec (.ctsAsserted p level .together) u
        = .next ((u.startOn p).modifyLink p (Link.ctsChange level)) := fun _ => rfl
    refine ⟨i, hi, ?_, by rw [hrun]; exact startOn_chosen p s⟩
    rw [hcts, hcts, hrun, startOn_of_not_chosen (startOn_chosen p s)]
  · have hdue : s.wtb.frameDue = false := by
      rw [Bool.eq_false_iff, ne_eq, frameDue_iff]
      rcases hw with h | h
      · exact fun hd => hd.1 h
      · exact fun hd => absurd hd.2 (not_le.2 h)
    rw [hstep s hq, hstep s.startDue (by rw [startDue_pending]; exact hq), elapse_startDue hdue]
  · refine ⟨Config.strobeOrder s.freeCount, s.atMoment (Config.strobeOrder s.freeCount).moment, fun h => by rw [h]; rfl,
      fun h => by rw [h]; rfl, ?_⟩
    rw [hstep s hq, State.elapse, if_pos ((frameDue_iff s.wtb).2 ⟨hrun, hlimit⟩)]
  · rw [startDue_eq]
    exact tx_of_line (startAll_line allPorts hp)
  · obtain ⟨sends, hrun, hsends, hsub⟩ := exists_startAll_commands (ps := allPorts) (by decide) s
    exact ⟨sends, hrun, hsends, (by decide : allPorts.Pairwise (· < ·)).sublist hsub⟩

end Sys2Proof.Machine
end

section
/-! PROOFS. The sendings of EDIT_RESULT and STEP (R51, R73, R121, R123, R127): the command of the first group that owes a notice,
the DONE slot whose result is sent, and the edit that takes its place. -/

namespace Sys2Proof.Machine

/-! ### The send command of the first group (R124) -/

/-- What is chosen is what its own group gives. -/
theorem inGroup_of_choose {p : Port} {s : State} {x : Choice} (h : s.choose p = some x) : s.inGroup p x.group = some x := by
  rw [choose_eq_findSome] at h
  obtain ⟨g, _, hg⟩ := List.exists_of_findSome?_eq_some h
  rw [inGroup_group hg]
  exact hg

/-- The send command of the first group that gives a notice sends it (R31, R124). -/
theorem exec_first_group {p : Port} {s : State} {g : Nat} {x : Choice} (htx : s.links[p].tx = .idle)
    (hcts : s.links[p].cts = true) (hx : s.inGroup p g = some x) (hfirst : ∀ k, 1 ≤ k → k < g → ¬ (s.duties p).Owes k) :
    exec (sendCommand p g) s = .next (s.send p x) := by
  have howes : (s.duties p).Owes g := not_not.1 fun hno => by rw [inGroup_eq_none.2 hno] at hx; cases hx
  obtain ⟨y, hy, hg⟩ := choose_of_first (mem_groups.1 (owes_group howes)).1 howes hfirst
  subst hg
  obtain rfl : x = y := Option.some.inj (hx.symm.trans (inGroup_of_choose hy))
  exact exec_sendCommand_chosen ((chosen_iff p s x).2 ⟨htx, hcts, hy⟩)

/-- Nothing of the first four groups is owed where no cue notice is. -/
theorem not_owes_cue_notice {p : Port} {s : State} (hcues : ∀ d ∈ s.sched.live, d.notices[p].owed = none)
    (haborts : s.sched.aborts[p] = []) {k : Nat} (hk : k < 5) : ¬ (s.duties p).Owes k := by
  have hnone : ∀ notice, some notice ∉ (s.duties p).cues := fun notice hmem => by
    obtain ⟨c, hc, ho⟩ := mem_duties_cues.1 hmem
    rw [hcues c hc] at ho
    cases ho
  interval_cases k
  · exact id
  · exact hnone _
  · rintro (ha | ⟨r, hr⟩)
    · exact ha haborts
    · exact hnone _ hr
  · exact hnone _
  · exact hnone _

theorem not_owes_step {p : Port} {s : State} (h : s.composers[p].stepOwed = false) : ¬ (s.duties p).Owes 5 :=
  Bool.eq_false_iff.1 h

theorem not_owes_result {p : Port} {s : State} (h : ∀ x ∈ s.eu.slots[p], x.isDone = false) : ¬ (s.duties p).Owes 6 :=
  inGroup_eq_none.1 (earliestResult_eq_none.2 fun hmem => by
    obtain ⟨x, hx, hd⟩ := mem_duties_results.1 hmem
    rw [h x hx] at hd
    cases hd)

/-! ### EDIT_RESULT (R51, R73, R123) -/

theorem earliestResult_of_not_done {before : List EditSlot} (hbefore : ∀ y ∈ before, y.isDone = false) (rest : List EditSlot) :
    earliestResult (before ++ rest) = earliestResult rest := by
  induction before with
  | nil => rfl
  | cons y ys ih =>
    obtain ⟨hy, hys⟩ := List.forall_mem_cons.1 hbefore
    rw [← ih hys]
    cases hs : y.status with
    | done outcome => simp [EditSlot.isDone, hs] at hy
    | queued | active orphan => simp [earliestResult, hs]

theorem earliestResult_done {x : EditSlot} {outcome : EditOutcome} (h : x.status = .done outcome) (rest : List EditSlot) :
    earliestResult (x :: rest) = some (.editResult x outcome) := by
  simp [earliestResult, h]

theorem dropFirstDone_append {before after : List EditSlot} {x : EditSlot} (hbefore : ∀ y ∈ before, y.isDone = false)
    (hx : x.isDone = true) : dropFirstDone (before ++ x :: after) = before ++ after := by
  induction before with
  | nil => simp [dropFirstDone, hx]
  | cons y ys ih =>
    obtain ⟨hy, hys⟩ := List.forall_mem_cons.1 hbefore
    simp [dropFirstDone, hy, ih hys]

theorem isDone_of_status {x : EditSlot} {outcome : EditOutcome} (h : x.status = .done outcome) : x.isDone = true := by
  simp [EditSlot.isDone, h]

/-- Only the edits of a cue have their cue id in the result (R51). -/
theorem resultCueId_eq (m : Message) :
    m.resultCueId = if m.kind = some .cuePut ∨ m.kind = some .cueDrop then m.char 3 else 0 := by
  unfold Message.resultCueId
  split
  · next h => rw [if_pos (.inl h)]
  · next h => rw [if_pos (.inr h)]
  · next hput hdrop => rw [if_neg (not_or.2 ⟨hput, hdrop⟩)]

/-- The move out of an empty holding slot. -/
theorem refill_empty {p : Port} {s : State} (h : s.links[p].holding = none) : s.refill p = s := by
  simp only [State.refill, h]

/-- The move out of the holding slot into an EMPTY edit slot (R27). -/
theorem refill_waiting {p : Port} {s : State} {m : Message} (h : s.links[p].holding = some m)
    (hfree : s.eu.slots[p].length < slotCount) :
    s.refill p = (s.modifySlots p (enqueue m)).modifyLink p fun l => { l with holding := none } := by
  simp only [State.refill, h, if_pos hfree]

/-- An EDIT_RESULT sent with no edit waiting (R73, R123): the slot is EMPTY. -/
theorem send_editResult_empty {p : Port} {s : State} (h : s.links[p].holding = none) (x : EditSlot) (outcome : EditOutcome) :
    s.send p (.editResult x outcome)
      = ((s.transmit p 68 (editResultChars x outcome)).modifySlots p dropFirstDone).arbitrate := by
  rw [State.send, refill_empty (by rw [modifySlots_links, transmit_get, if_pos rfl]; exact h)]

/-- An EDIT_RESULT sent with an edit waiting (R27, R73, R123): the edit takes the place of the slot. -/
theorem send_editResult_waiting {p : Port} {s : State} {m : Message} (h : s.links[p].holding = some m)
    (hfree : (dropFirstDone s.eu.slots[p]).length < slotCount) (x : EditSlot) (outcome : EditOutcome) :
    s.send p (.editResult x outcome)
      = ((((s.transmit p 68 (editResultChars x outcome)).modifySlots p dropFirstDone).modifySlots p (enqueue m)).modifyLink p
          fun l => { l with holding := none }).arbitrate := by
  rw [State.send, refill_waiting (by rw [modifySlots_links, transmit_get, if_pos rfl]; exact h)
    (by rw [modifySlots_get, if_pos rfl]; exact hfree)]

/-! ### Two changes of one entry -/

/-- Two changes of the edit slots of a port are one. -/
theorem modifySlots_modifySlots (p : Port) (f g : List EditSlot → List EditSlot) (s : State) :
    (s.modifySlots p f).modifySlots p g = s.modifySlots p fun l => g (f l) := by
  simp [State.modifySlots, modifyAt]

/-- Two changes of the link of a port are one. -/
theorem modifyLink_modifyLink (p : Port) (f g : Link → Link) (s : State) :
    (s.modifyLink p f).modifyLink p g = s.modifyLink p fun l => g (f l) := by
  simp [State.modifyLink, modifyAt]

/-- The link and the edit slots of a port are changed in either order. -/
theorem modifyLink_modifySlots (p : Port) (f : List EditSlot → List EditSlot) (g : Link → Link) (s : State) :
    (s.modifySlots p f).modifyLink p g = (s.modifyLink p g).modifySlots p f := rfl

/-- Settles O44: a STEP is of the fifth group and an EDIT_RESULT of the sixth, and no group above owes anything. -/
theorem resultsAndStepsAreSent : Obligations.ResultsAndStepsAreSent := by
  unfold Obligations.ResultsAndStepsAreSent
  intro s p htx hcts hcues haborts
  refine ⟨fun hstep => ?_, fun x before after outcome link hstep hslots hdone hbefore hlen hlink => ?_⟩
  · have hgroup : s.inGroup p 5 = some .step := if_pos hstep
    exact exec_first_group htx hcts hgroup fun k _ hk => not_owes_cue_notice hcues haborts hk
  · have hgroup : s.inGroup p 6 = some (.editResult x outcome) := by
      rw [State.inGroup, hslots, earliestResult_of_not_done hbefore, earliestResult_done hdone]
    have hexec : exec (.editResult p) s = .next (s.send p (.editResult x outcome)) :=
      exec_first_group htx hcts hgroup fun k _ hk => by
        rcases Nat.lt_succ_iff_lt_or_eq.1 hk with hk | rfl
        · exact not_owes_cue_notice hcues haborts hk
        · exact not_owes_step hstep
    have hdrop : dropFirstDone s.eu.slots[p] = before ++ after := by
      rw [hslots, dropFirstDone_append hbefore (isDone_of_status hdone)]
    have hchars : link = { s.links[p] with tx := .sending (outgoing true 68) (editResultChars x outcome) } := by
      rw [hlink, editResultChars, resultCueId_eq]; rfl
    refine ⟨fun hhold => ?_, fun m hhold => ⟨freeSlotName (before ++ after), ?_⟩⟩
    · rw [hexec, send_editResult_empty hhold, hchars, ← hdrop]
      rfl
    · rw [hexec, send_editResult_waiting hhold (by rw [hdrop]; exact hlen), modifySlots_modifySlots, hchars, ← hdrop]
      rw [State.transmit, modifyLink_modifySlots, modifyLink_modifyLink]
      rfl

end Sys2Proof.Machine
end

section
/-! PROOFS. The sending of a REPORT (R46 to R49, R52, R122, R127): the subject that a QUERY names, what the composition does to
other blocks, and the body of each subject. -/

namespace Sys2Proof.Machine

/-! ### The subject of a QUERY (R46) -/

theorem portOf_eq_some {n : Nat} {q : Port} : portOf n = some q ↔ n = q.val := by
  unfold portOf
  split
  · simp [Fin.ext_iff]
  · exact iff_of_false (fun h => by cases h) (by omega)

theorem portOf_eq_none {n : Nat} : portOf n = none ↔ 5 < n := by
  unfold portOf
  split
  · exact iff_of_false (fun h => by cases h) (by omega)
  · exact iff_of_true rfl (by omega)

theorem zoneOf_eq_some {n : Nat} {z : ZoneId} : zoneOf n = some z ↔ n = z.val := by
  unfold zoneOf
  split
  · simp [Fin.ext_iff]
  · exact iff_of_false (fun h => by cases h) (by omega)

theorem zoneOf_eq_none {n : Nat} : zoneOf n = none ↔ 7 < n := by
  unfold zoneOf
  split
  · exact iff_of_false (fun h => by cases h) (by omega)
  · exact iff_of_true rfl (by omega)

/-- A subject code and an index name a subject (R46). -/
def Subject.NamedBy (subject index : Byte) : Subject → Prop
  | .cue id => subject.toNat = 0 ∧ index = id
  | .port q => subject.toNat = 1 ∧ index.toNat = q.val
  | .wall => subject.toNat = 2
  | .zone z => subject.toNat = 3 ∧ index.toNat = z.val
  | .sensor j => subject.toNat = 4 ∧ index.toNat = j.val

/-- The subject of a QUERY is the one that its code and index name. -/
theorem subjectOf_eq_some {subject index : Byte} {x : Subject} :
    subjectOf subject index = some x ↔ x.NamedBy subject index := by
  unfold subjectOf
  split
  · next h => cases x <;> simp [Subject.NamedBy, h]
  · next h => cases x <;> simp [Subject.NamedBy, h, portOf_eq_some]
  · next h => cases x <;> simp [Subject.NamedBy, h]
  · next h => cases x <;> simp [Subject.NamedBy, h, zoneOf_eq_some]
  · next h => cases x <;> simp [Subject.NamedBy, h, zoneOf_eq_some]
  · next h0 h1 h2 h3 h4 =>
    refine iff_of_false (fun h => by cases h) fun h => ?_
    cases x with
    | cue => exact h0 h.1
    | port => exact h1 h.1
    | wall => exact h2 h
    | zone => exact h3 h.1
    | sensor => exact h4 h.1

/-- Which QUERY is not valid (R46). -/
theorem subjectOf_eq_none {subject index : Byte} :
    subjectOf subject index = none ↔ 4 < subject.toNat ∨ subject.toNat = 1 ∧ 5 < index.toNat
      ∨ (subject.toNat = 3 ∨ subject.toNat = 4) ∧ 7 < index.toNat := by
  unfold subjectOf
  split
  · next h => simp [h]
  · next h => simp [h, portOf_eq_none]
  · next h => simp [h]
  · next h => simp [h, zoneOf_eq_none]
  · next h => simp [h, zoneOf_eq_none]
  · next h0 h1 h2 h3 h4 =>
    simp only [imp_false] at h0 h1 h2 h3 h4
    exact iff_of_true rfl (.inl (by omega))

/-! ### What the composition does to other blocks (R29, R46, R127) -/

/-- A PORT report clears the sticky flags of its port (R29). -/
theorem reportEffects_links (subject : Option Subject) (s : State) (q : Port) :
    (s.reportEffects subject).links[q]
      = { s.links[q] with flags := if subject = some (.port q) then .clear else s.links[q].flags } := by
  unfold State.reportEffects
  split
  · next r =>
    refine (modifyLink_get r q _ s).trans ?_
    by_cases hq : q = r
    · rw [if_pos hq, if_pos (by rw [hq])]
    · rw [if_neg hq, if_neg fun h => hq (by cases h; rfl)]
  all_goals simp

/-- A WALL report clears GLITCH and sweep overrun (R13, R46); nothing else of the timebase and the sweep changes. -/
theorem reportEffects_wall (subject : Option Subject) (s : State) :
    (s.reportEffects subject).wtb = { s.wtb with glitch := s.wtb.glitch && decide (subject ≠ some .wall) }
      ∧ (s.reportEffects subject).ambient
        = { s.ambient with overrun := s.ambient.overrun && decide (subject ≠ some .wall) } := by
  unfold State.reportEffects
  split <;> simp

/-- The composition of a REPORT changes no other block. -/
theorem reportEffects_frame (subject : Option Subject) (s : State) :
    s.reportEffects subject = { s with
      wtb := (s.reportEffects subject).wtb
      links := (s.reportEffects subject).links
      ambient := (s.reportEffects subject).ambient
      freeCount := (s.reportEffects subject).freeCount } := by
  unfold State.reportEffects
  split <;> rfl

/-! ### Bit sets and codes (R52) -/

theorem stickyFlags_bits (f : StickyFlags) :
    (List.range 8).map f.toByte.getLsbD = [f.parity, f.framing, f.overrun, f.truncated, f.badKind, f.stray, false, false] := by
  have key : ∀ a b c d e g : Bool, (List.range 8).map (StickyFlags.mk a b c d e g).toByte.getLsbD
      = [a, b, c, d, e, g, false, false] := by decide
  exact key _ _ _ _ _ _

theorem rights_bits (r : Rights) :
    (List.range 8).map r.toByte.getLsbD = [r.zone, r.wall, r.save, r.permit, false, false, false, false] := by
  have key : ∀ a b c d : Bool, (List.range 8).map (Rights.mk a b c d).toByte.getLsbD
      = [a, b, c, d, false, false, false, false] := by decide
  exact key _ _ _ _

/-- A flag as a character. -/
theorem char1_toNat (b : Bool) : char1 b.toNat = if b then 1 else 0 := by
  cases b <;> rfl

theorem readiness_code_lt (r : Readiness) : r.code < 4 := by
  cases r <;> simp [Readiness.code]

theorem readinessAt_of_get {ps : List Participant} {k : Nat} {x : Participant} (h : ps[k]? = some x) :
    readinessAt ps k = x.readiness := by
  simp [readinessAt, h]

/-- Beyond the participants every entry reads NOT_ASKED (R47). -/
theorem readinessAt_beyond {ps : List Participant} {k : Nat} (h : ps.length ≤ k) : readinessAt ps k = .notAsked := by
  simp [readinessAt, h]

theorem packReadiness_toNat (ps : List Participant) (k : Nat) :
    (packReadiness ps k).toNat = (readinessAt ps k).code + 4 * (readinessAt ps (k + 1)).code
      + 16 * (readinessAt ps (k + 2)).code + 64 * (readinessAt ps (k + 3)).code := by
  have h0 := readiness_code_lt (readinessAt ps k)
  have h1 := readiness_code_lt (readinessAt ps (k + 1))
  have h2 := readiness_code_lt (readinessAt ps (k + 2))
  have h3 := readiness_code_lt (readinessAt ps (k + 3))
  rw [packReadiness, char1, BitVec.toNat_ofNat]
  exact Nat.mod_eq_of_lt (by omega)

/-- The two bits of one participant among the packed four (R52). -/
theorem packReadiness_digit (ps : List Participant) (k : Nat) {i : Nat} (hi : i < 4) :
    (packReadiness ps k).toNat / 4 ^ i % 4 = (readinessAt ps (k + i)).code := by
  have h0 := readiness_code_lt (readinessAt ps k)
  have h1 := readiness_code_lt (readinessAt ps (k + 1))
  have h2 := readiness_code_lt (readinessAt ps (k + 2))
  have h3 := readiness_code_lt (readinessAt ps (k + 3))
  rw [packReadiness_toNat]
  interval_cases i
  · rw [pow_zero, Nat.div_one, Nat.add_zero k]; omega
  all_goals omega

/-- The second packed character has only participants 5 and 6 (R47). -/
theorem packReadiness_second_lt {ps : List Participant} (h : ps.length ≤ 6) : (packReadiness ps 4).toNat < 16 := by
  have h0 := readiness_code_lt (readinessAt ps 4)
  have h1 := readiness_code_lt (readinessAt ps (4 + 1))
  rw [packReadiness_toNat, readinessAt_beyond (k := 4 + 2) h, readinessAt_beyond (k := 4 + 3) (by omega)]
  rw [show Readiness.notAsked.code = 0 from rfl]
  omega

theorem reasonByte_of_not_refused {x : Readiness} (h : ∀ r, x ≠ .refused r) : x.reasonByte = 0 := by
  cases x with
  | refused r => exact absurd rfl (h r)
  | notAsked | asked | ready => rfl

/-! ### The bodies (R46 to R49) -/

/-- Where the readiness of participant `k` stands in the live form: two bits of one of the packed characters (R47). -/
theorem liveBody_readiness (c : Cue) {k : Nat} (hk : k < 6) :
    ((liveBody c).getD (8 + k / 4) 0).toNat / 4 ^ (k % 4) % 4 = (readinessAt c.participants k).code := by
  have hget : (liveBody c).getD (8 + k / 4) 0 = packReadiness c.participants (4 * (k / 4)) := by
    interval_cases k <;> rfl
  rw [hget, packReadiness_digit _ _ (Nat.mod_lt k (by decide)), Nat.div_add_mod]

/-- Where the reason of participant `k` stands in the live form (R47). -/
theorem liveBody_reason (c : Cue) {k : Nat} (hk : k < 6) :
    (liveBody c).getD (10 + k) 0 = (readinessAt c.participants k).reasonByte := by
  interval_cases k <;> rfl

/-- The lookup of a retired cue finds the newest entry of its id (R65, R69). -/
theorem findOutcome_newest {id : Byte} {older newer : List OutcomeEntry} {e : OutcomeEntry} (he : e.id = id)
    (hnewer : ∀ x ∈ newer, x.id ≠ id) : findOutcome id (older ++ e :: newer) = some e := by
  have hnone : newer.reverse.find? (fun x => x.id == id) = none := by simpa using hnewer
  simp [findOutcome, List.find?_append, hnone, he]

theorem findOutcome_eq_none {id : Byte} {l : List OutcomeEntry} : findOutcome id l = none ↔ ∀ e ∈ l, e.id ≠ id := by
  simp [findOutcome]

theorem cueBody_live {id : Byte} {c : Cue} {s : Schedule} (h : findCue id s.live = some c) : cueBody id s = liveBody c := by
  simp only [cueBody, h]

theorem cueBody_retired {id : Byte} {e : OutcomeEntry} {s : Schedule} (hlive : findCue id s.live = none)
    (h : findOutcome id s.outcomes = some e) : cueBody id s = retiredBody e := by
  simp only [cueBody, hlive, h]

theorem cueBody_unknown {id : Byte} {s : Schedule} (hlive : findCue id s.live = none) (h : findOutcome id s.outcomes = none) :
    cueBody id s = unknownBody := by
  simp only [cueBody, hlive, h]

/-- The retired form, with the next fire frame of a RESCHEDULED cue (R47, R67). -/
theorem retiredBody_eq (e : OutcomeEntry) :
    retiredBody e = 5 :: chars4 e.fire ++ [char1 e.outcome.code, char1 e.deferralsUsed, e.armed.setWidth 8,
        e.unsent.setWidth 8, char1 e.continuation.code] ++ chars4 e.continuation.nextFire ++ [0, 0] := rfl

theorem cueBody_length (id : Byte) (s : Schedule) : (cueBody id s).length = 16 := by
  unfold cueBody
  split
  · rfl
  · split <;> rfl

/-- The two characters of an id range, its ends where it is not empty (R48). -/
theorem idRangeChars_pair (k : Nat) (r : Permission) :
    ∃ low high : Byte, idRangeChars k r = [low, high] ∧ ∀ range, r.idRange = some range → low = range.1 ∧ high = range.2 := by
  unfold idRangeChars
  split
  · next low high h =>
    refine ⟨low, high, rfl, fun range hr => ?_⟩
    cases h.symm.trans hr
    exact ⟨rfl, rfl⟩
  · next h => exact ⟨_, _, rfl, fun range hr => by rw [h] at hr; cases hr⟩

theorem portBody_length (q : Port) (s : State) : (portBody q s).length = 16 := by
  obtain ⟨low, high, h, -⟩ := idRangeChars_pair s.freeCount s.eu.permits[q]
  rw [portBody, h]
  rfl

/-- Every body has sixteen characters (R46). -/
theorem reportBody_length (subject : Option Subject) (s : State) : (s.reportBody subject).length = 16 := by
  unfold State.reportBody
  split
  · rfl
  · exact cueBody_length _ _
  · exact portBody_length _ _
  all_goals rfl

/-- In UNSET source, prescale and N read 0 (R16). -/
theorem reported_unset {t : Wtb} (h : t.timebase = none) : t.reportedSource = 0 ∧ t.reportedPrescale = 0 ∧ t.n = 0 := by
  simp [Wtb.reportedSource, Wtb.reportedPrescale, Wtb.n, h]

theorem reported_timebase {t : Wtb} {b : Timebase} (h : t.timebase = some b) :
    t.reportedSource = b.source.code ∧ t.reportedPrescale = b.prescale.val ∧ t.n = b.n := by
  simp [Wtb.reportedSource, Wtb.reportedPrescale, Wtb.n, h]

/-- The body is that of the subject named by the QUERY. -/
theorem reportBody_named {subject index : Byte} {x : Subject} (h : x.NamedBy subject index) (s : State) :
    s.reportBody (subjectOf subject index) = s.reportBody (some x) := by
  rw [subjectOf_eq_some.2 h]

/-! ### The sending -/

/-- The port that sends a REPORT has its kind, subject, index and body on the line (R46, R122). -/
theorem send_report_tx (p : Port) (subject index : Byte) (s : State) :
    (s.send p (.report subject index)).links[p].tx = .sending (outgoing true 69)
      ((if subjectOf subject index = none then 255 else subject) :: index :: s.reportBody (subjectOf subject index)) := by
  rw [State.send, transmit_get, if_pos rfl, State.reportChars]
  cases subjectOf subject index <;> rfl

/-- The owed REPORT becomes none, on its port alone (R122). -/
theorem send_report_composers (p : Port) (subject index : Byte) (s : State) :
    (s.send p (.report subject index)).composers = s.composers.set p { s.composers[p] with report := none } := by
  rw [State.send, transmit_composers, reportEffects_frame]
  rfl

/-- The blocks that the sending of a REPORT leaves as they are. -/
theorem send_report_frame (p : Port) (subject index : Byte) (s : State) :
    (s.send p (.report subject index)).sched = s.sched ∧ (s.send p (.report subject index)).eu = s.eu
      ∧ (s.send p (.report subject index)).watch = s.watch ∧ (s.send p (.report subject index)).dimmer = s.dimmer
      ∧ (s.send p (.report subject index)).page = s.page := by
  rw [State.send, reportEffects_frame]
  exact ⟨rfl, rfl, rfl, rfl, rfl⟩

/-- The sticky flags of the port that a PORT report is about are clear, and no others (R29, R46). -/
theorem send_report_flags (p q : Port) (subject index : Byte) (s : State) :
    (s.send p (.report subject index)).links[q].flags
      = if subject.toNat = 1 ∧ index.toNat = q.val then .clear else s.links[q].flags := by
  have h := congrArg Link.flags (reportEffects_links (subjectOf subject index) s q)
  simp only [subjectOf_eq_some, Subject.NamedBy] at h
  rw [State.send, transmit_get]
  split <;> exact h

/-- Of another port's link only the flags can change. -/
theorem send_report_links_other {p q : Port} (hq : q ≠ p) (subject index : Byte) (s : State) :
    (s.send p (.report subject index)).links[q]
      = { s.links[q] with flags := (s.send p (.report subject index)).links[q].flags } := by
  have h : (s.send p (.report subject index)).links[q] = (s.reportEffects (subjectOf subject index)).links[q] := by
    rw [State.send, transmit_get, if_neg hq]
  rw [h, reportEffects_links]

/-- A WALL report clears GLITCH and sweep overrun, and no other report does (R13, R46). -/
theorem send_report_wall (p : Port) (subject index : Byte) (s : State) :
    (s.send p (.report subject index)).wtb = { s.wtb with glitch := s.wtb.glitch && decide (subject.toNat ≠ 2) }
      ∧ (s.send p (.report subject index)).ambient
        = { s.ambient with overrun := s.ambient.overrun && decide (subject.toNat ≠ 2) } := by
  have h := reportEffects_wall (subjectOf subject index) s
  simp only [ne_eq, subjectOf_eq_some, Subject.NamedBy] at h
  exact h

/-- Settles O45: a REPORT is of the last group and no other owes anything; its body is read off subject by subject. -/
theorem reportsAreSent : Obligations.ReportsAreSent := by
  unfold Obligations.ReportsAreSent
  intro s p subject index htx hcts hcues haborts hstep hresults hreport
  have hgroup : s.inGroup p 7 = some (.report subject index) := by rw [State.inGroup, hreport]; rfl
  have hexec : exec (.report p) s = .next (s.send p (.report subject index)) :=
    exec_first_group htx hcts hgroup fun k _ hk => by
      obtain hk | rfl | rfl : k < 5 ∨ k = 5 ∨ k = 6 := by omega
      · exact not_owes_cue_notice hcues haborts hk
      · exact not_owes_step hstep
      · exact not_owes_result hresults
  obtain ⟨hsched, heu, hwatch, hdimmer, hpage⟩ := send_report_frame p subject index s
  obtain ⟨hwtb, hambient⟩ := send_report_wall p subject index s
  refine ⟨s.send p (.report subject index), s.reportBody (subjectOf subject index), hexec, reportBody_length _ s,
    send_report_composers p subject index s, hsched, heu, hwatch, hdimmer, hpage, send_report_tx p subject index s,
    subjectOf_eq_none, fun h => by rw [h]; rfl, fun q hq => send_report_links_other hq subject index s,
    fun q => send_report_flags p q subject index s, hwtb, hambient, ?live, ?retired, ?port, ?wall, ?zone, ?sensor⟩
  case live =>
    rintro c hc rfl rfl hids hlen
    rw [reportBody_named (x := .cue c.id) ⟨rfl, rfl⟩, State.reportBody, cueBody_live (findCue_eq hids hc)]
    refine ⟨⟨_, _, _, rfl, packReadiness_second_lt hlen⟩, fun k hk => ?_⟩
    rw [liveBody_readiness c hk, liveBody_reason c hk]
    refine ⟨fun x hx => ?_, fun hbeyond => ?_⟩
    · rw [readinessAt_of_get hx]
      exact ⟨rfl, fun r hr => by rw [hr]; rfl, reasonByte_of_not_refused⟩
    · rw [readinessAt_beyond hbeyond]
      exact ⟨rfl, rfl⟩
  case retired =>
    rintro rfl hno
    have hlive : findCue index s.sched.live = none := findCue_none.2 hno
    rw [reportBody_named (x := .cue index) ⟨rfl, rfl⟩]
    refine ⟨fun older e newer houtcomes he hnewer => ?_, fun hnone => cueBody_unknown hlive (findOutcome_eq_none.2 hnone)⟩
    refine (cueBody_retired hlive (houtcomes ▸ findOutcome_newest he hnewer)).trans ?_
    rw [retiredBody_eq]
    cases e.continuation <;> rfl
  case port =>
    rintro q rfl hq
    rw [reportBody_named (x := .port q) ⟨rfl, hq⟩]
    obtain ⟨low, high, hrange, hends⟩ := idRangeChars_pair s.freeCount s.eu.permits[q]
    refine ⟨s.links[q].flags.toByte, low, high, s.eu.permits[q].rights.toByte, ?_, stickyFlags_bits _, hends, rights_bits _⟩
    rw [State.reportBody, portBody, hrange, char1_toNat]
    rfl
  case wall =>
    rintro rfl
    rw [reportBody_named (subject := 2) (x := .wall) rfl]
    refine ⟨s.wtb.reportedSource, s.wtb.reportedPrescale, s.wtb.n, ?_, reported_unset, fun b => reported_timebase⟩
    rw [State.reportBody, wallBody, char1_toNat, char1_toNat]
  case zone =>
    rintro z _ rfl hz rfl
    rw [reportBody_named (x := .zone z) ⟨rfl, hz⟩]
    exact ⟨_, _, rfl, fun h => by rw [h]; rfl, fun q h => by rw [h]; rfl, fun h => by rw [h]; rfl, fun j h => by rw [h]; rfl⟩
  case sensor =>
    rintro j _ rfl hj rfl
    rw [reportBody_named (x := .sensor j) ⟨rfl, hj⟩]
    rfl

end Sys2Proof.Machine
end

section
/-! PROOFS. The law of the schedule, and the record that a CUE_PUT stores (chapter 4): its timing fields, its other fields and its
participants (R55 to R61), and its place in the table with the entry test (R59, R62, R93). -/

namespace Sys2Proof.Machine

/-- Settles O58: a part of the laws of the whole part. -/
theorem stepKeepsScheduleLaw : Obligations.StepKeepsScheduleLaw := by
  unfold Obligations.StepKeepsScheduleLaw
  intro s t h hstep
  exact (stepKeepsLaws s t h hstep).sched

/-! ### Lo, Li, margin and lead (R57) -/

theorem storedFade_eq (n : Nat) : storedFade n = if n = 0 then 1 else if 32 < n then 32 else n := by
  simp only [storedFade, clampNat, Nat.lt_one_iff]

/-- Step 2 of R57 gives each transition its own floor of the margin. -/
theorem raisedMargin_eq (t : Transition) (lo margin : Nat) :
    raisedMargin t lo margin = max margin (match t with | .dim => lo + 1 | .cut => 1) := by
  cases t <;> rfl

/-- Step 3 of R57 holds the lead to 4095. -/
theorem storedLead_eq (lead margin : Nat) :
    (storedLeadMargin lead margin).1 = if 4095 < max lead (margin + 1) then 4095 else max lead (margin + 1) := by
  have hmax : maxLead = 4095 := rfl
  simp only [storedLeadMargin]
  split <;> omega

/-- Step 3 of R57 takes a margin at or above the stored lead to 4094. -/
theorem storedMargin_eq (lead margin : Nat) :
    (storedLeadMargin lead margin).2 = if (storedLeadMargin lead margin).1 ≤ margin then 4094 else margin := by
  by_cases h : (storedLeadMargin lead margin).1 ≤ margin
  · rw [if_pos h]
    exact if_neg (Nat.not_lt.2 h)
  · rw [if_neg h]
    exact if_pos (Nat.lt_of_not_le h)

/-- Settles O29: the three steps of R57 one after the other, and the ranges that they leave. -/
theorem timingFieldsAsStored : Obligations.TimingFieldsAsStored := by
  unfold Obligations.TimingFieldsAsStored
  rintro m tr policy c rfl
  obtain ⟨hlo1, hlo32⟩ := storedFade_range (m.num 9)
  obtain ⟨hli1, hli32⟩ := storedFade_range (m.num 10)
  obtain ⟨hpos, hdim⟩ := raisedMargin_range tr (storedFade (m.num 9)) (m.num2 13)
  obtain ⟨-, hmargin, hlt, hlead⟩ := storedLeadMargin_range (lead := m.num2 11) hpos (by omega) hpos
  refine ⟨rfl, storedFade_eq _, storedFade_eq _,
    ⟨_, _, raisedMargin_eq tr _ _, rfl, storedLead_eq _ _, storedMargin_eq _ _⟩,
    hlo1, hlo32, hli1, hli32, hmargin, Nat.le_of_lt_succ (Nat.lt_of_lt_of_le hlt hlead),
    fun ht => (storedLeadMargin_range (hdim ht) (by omega) hpos).1, Nat.le_trans (Nat.succ_le_succ hmargin) hlt, hlead, hlt⟩

/-! ### Deferral and repeat fields, and participants (R55, R58, R61) -/

theorem num4_lt (m : Message) (pos : Nat) : m.num4 pos < 2 ^ 32 := by
  have h1 := num2_le m pos
  have h2 := num2_le m (pos + 2)
  unfold Message.num4
  omega

/-- A participant entry with a legal port is stored with nothing asked (R61). -/
theorem participantOf_legal {e : Nat × Token} (h : e.1 ≤ 5) : participantOf e = some ⟨Fin.ofNat 6 e.1, e.2, .notAsked⟩ := by
  have hport : portOf e.1 = some (Fin.ofNat 6 e.1) :=
    portOf_eq_some.2 (Nat.mod_eq_of_lt (Nat.lt_succ_of_le h)).symm
  rw [participantOf, hport]
  rfl

/-- Entry `k` of a put, whose n is at most 6. -/
theorem entries_get {m : Message} {k : Nat} (hn : m.num 25 ≤ 6) (hk : k < m.num 25) :
    m.entries[k]? = some (m.num (26 + 3 * k), BitVec.ofNat 16 (m.num2 (27 + 3 * k))) := by
  have hport : 23 + 3 * (k + 1) = 26 + 3 * k := by omega
  have htoken : 24 + 3 * (k + 1) = 27 + 3 * k := by omega
  rw [Message.entries, List.getElem?_map, List.getElem?_take_of_lt hk, List.getElem?_range (Nat.lt_of_lt_of_le hk hn),
    Option.map_some, Message.entryPort, Message.entryToken, hport, htoken]

theorem mem_entries {m : Message} {e : Nat × Token} (hn : m.num 25 ≤ 6) (he : e ∈ m.entries) :
    ∃ k < m.num 25, e.1 = m.num (26 + 3 * k) := by
  obtain ⟨k, hk, rfl⟩ := List.mem_iff_getElem.1 he
  have hlt : k < m.num 25 := by rw [entries_length] at hk; omega
  have hget := entries_get hn hlt
  rw [List.getElem?_eq_getElem hk, Option.some.injEq] at hget
  exact ⟨k, hlt, congrArg Prod.fst hget⟩

/-- The participants of a put with legal ports are its entries, one for one (R55, R61). -/
theorem cueOf_participants {m : Message} {t : Transition} {policy : Policy} (h : ∀ e ∈ m.entries, e.1 ≤ 5) :
    (m.cueOf t policy).participants = m.entries.map fun e => ⟨Fin.ofNat 6 e.1, e.2, .notAsked⟩ :=
  (List.filterMap_congr fun e he => participantOf_legal (h e he)).trans (by rw [List.filterMap_eq_map'])

/-- Settles O30: each field as its conversion leaves it, and the participants entry by entry. -/
theorem otherFieldsAsStored : Obligations.OtherFieldsAsStored := by
  unfold Obligations.OtherFieldsAsStored
  rintro m tr policy c rfl
  refine ⟨rfl, ?_, rfl, rfl, ?_, rfl, rfl, rfl, rfl, fun hn hports => ?_⟩
  · exact Nat.mod_eq_of_lt (num4_lt m 4)
  · simp only [Message.cueOf, storedMaxDeferrals]
    split <;> omega
  · have hparticipants := cueOf_participants (m := m) (t := tr) (policy := policy) fun e he => by
      obtain ⟨k, hk, hport⟩ := mem_entries hn he
      exact hport ▸ hports k hk
    rw [hparticipants, List.length_map, entries_length]
    refine ⟨Nat.min_eq_left hn, fun k hk => ?_⟩
    rw [List.getElem?_map, entries_get hn hk]
    have htoken := num2_le m (27 + 3 * k)
    exact ⟨_, rfl, Nat.mod_eq_of_lt (Nat.lt_succ_of_le (hports k hk)), Nat.mod_eq_of_lt (by omega), rfl⟩

/-! ### A put without a fault (R39, R80) -/

theorem transitionOf_code {n : Nat} (h : n ≤ 1) : ∃ t : Transition, transitionOf n = some t ∧ t.code = n := by
  obtain rfl | rfl : n = 0 ∨ n = 1 := by omega
  · exact ⟨.cut, rfl, rfl⟩
  · exact ⟨.dim, rfl, rfl⟩

theorem policyOf_some {n : Nat} (h : n ≤ 2) : ∃ policy : Policy, policyOf n = some policy := by
  obtain rfl | rfl | rfl : n = 0 ∨ n = 1 ∨ n = 2 := by omega
  · exact ⟨.defer, rfl⟩
  · exact ⟨.partialTake, rfl⟩
  · exact ⟨.cancel, rfl⟩

/-- The repeat interval of a put, absent or above its bound and at most 2^30 (R58, R80). -/
theorem cueOf_intervalOk {m : Message} {t : Transition} {policy : Policy} (hle : m.num4 19 ≤ 2 ^ 30)
    (hfloor : m.num4 19 ≠ 0 → (m.cueOf t policy).intervalFloor < m.num4 19) : (m.cueOf t policy).intervalOk = true := by
  have hstored : (m.cueOf t policy).repeatInterval = storedInterval (m.num4 19) := rfl
  unfold Cue.intervalOk
  rw [hstored, storedInterval]
  by_cases h0 : m.num4 19 = 0
  · rw [if_pos h0]
  · rw [if_neg h0]
    simp only [Bool.and_eq_true, decide_eq_true_eq]
    exact ⟨hfloor h0, hle⟩

/-- A put without a fault has a record, with the transition and the policy of its codes (R80). -/
theorem putRecord_of_no_fault {w : Frame} {m : Message} (h : ¬ PutFault w m) :
    ∃ t policy, Message.putRecord w m = some (m.cueOf t policy) ∧ transitionOf (m.num 8) = some t
      ∧ policyOf (m.num 15) = some policy := by
  simp only [PutFault, not_or, not_exists, not_and, not_not, Nat.not_lt, Int.not_lt, Int.not_le] at h
  obtain ⟨⟨hn1, hn6⟩, hports, hnodup, htransition, hpolicy, ⟨hahead, hbelow⟩, hinterval, hfloor⟩ := h
  obtain ⟨t, ht, hcode⟩ := transitionOf_code htransition
  obtain ⟨policy, hp⟩ := policyOf_some hpolicy
  have hentries : m.entriesOk = true := (entriesOk_iff m).2 ⟨hn1, hn6, hports, hnodup⟩
  have hok : (m.cueOf t policy).intervalOk = true := cueOf_intervalOk hinterval fun h0 => by
    obtain ⟨hdim, hcut⟩ := hfloor h0
    cases t with
    | cut => exact Nat.lt_of_not_le (hcut hcode.symm)
    | dim => exact Nat.lt_of_not_le (hdim hcode.symm)
  refine ⟨t, policy, ?_, ht, hp⟩
  have hrange : 0 ≤ (m.cueOf t policy).ahead w ∧ (m.cueOf t policy).ahead w < horizon := ⟨hahead, hbelow⟩
  simp [Message.putRecord, ht, hp, hentries, hrange, hok]

/-! ### The entry test (R93, R94) -/

/-- A cue that owes nothing and has sent nothing owes each participant a PREPARE once it is asked (R94, R116). -/
theorem ask_notices {c : Cue} (h : c.notices = Vector.replicate 6 .blank) (q : Port) :
    c.ask.notices[q] = ⟨if c.hasPort q then some .prepare else none, false, false⟩ := by
  have hblank : ({ c with state := .asking }.mapReadiness fun _ => .asked).notices[q] = .blank := by
    show c.notices[q] = .blank
    rw [h]
    simp
  unfold Cue.ask
  rw [offerTo_notices, hblank]
  cases c.hasPort q <;> rfl

/-- A WAITING record whose lead lies ahead stays as it is (R93). -/
theorem enter_waits {w : Frame} {c : Cue} (hs : c.state = .waiting) (h : (c.lead : Int) < c.ahead w) : c.enter w = c := by
  rw [Cue.enter, if_pos h, ← hs]

theorem enter_asks {w : Frame} {c : Cue} (h : c.ahead w ≤ c.lead) : c.enter w = c.ask := by
  rw [Cue.enter, if_neg (Int.not_lt.2 h)]

/-- Settles O32: the record of a put without a fault, stored under its id with the entry test of R93. -/
theorem cuePutStores : Obligations.CuePutStores := by
  unfold Obligations.CuePutStores
  intro w m sch h
  obtain ⟨t, policy, hrecord, ht, hp⟩ := putRecord_of_no_fault h
  refine ⟨m.cueOf t policy, hrecord, rfl, fun h0 => ?_, fun h1 => ?_, fun h0 => ?_, fun h1 => ?_, fun h2 => ?_, fun d => ?_,
    putCue_sorted w _ sch, enter_waits rfl, fun hlead => ⟨_, enter_asks hlead, ask_notices rfl⟩⟩
  · exact Option.some.inj (ht.symm.trans (congrArg transitionOf h0))
  · exact Option.some.inj (ht.symm.trans (congrArg transitionOf h1))
  · exact Option.some.inj (hp.symm.trans (congrArg policyOf h0))
  · exact Option.some.inj (hp.symm.trans (congrArg policyOf h1))
  · exact Option.some.inj (hp.symm.trans (congrArg policyOf h2))
  · rw [mem_putCue, enter_id]

end Sys2Proof.Machine
end

section
/-! PROOFS. Retirement and repetition (R66 to R68, R108 to R110): the continuation of an outcome entry, case by case, and the
record of the next repetition. -/

namespace Sys2Proof.Machine

/-! ### Which continuation a retirement has (R68, R110) -/

theorem isTake_iff (outcome : CueOutcome) : outcome.isTake = true ↔ outcome = .taken ∨ outcome = .takenPartial := by
  cases outcome <;> simp [CueOutcome.isTake]

/-- A cue that was not taken, or has no repeat interval, does not repeat. -/
theorem continuation_none {live : List Cue} {taken : Bool} {c : Cue} (h : taken ≠ true ∨ c.repeatInterval = none) :
    c.continuation live taken = .none := by
  unfold Cue.continuation
  split
  · next ht => rw [h.resolve_left (not_not.2 ht)]
  · rfl

/-- A taken cue with a repeat interval: its count, then the clash test of its next fire frame, decide. -/
theorem continuation_taken {live : List Cue} {taken : Bool} {c : Cue} {interval : Nat} (ht : taken = true)
    (hi : c.repeatInterval = some interval) : c.continuation live taken = if c.repeatCount = 0 then .endedCount
      else if clashes live c.hasPort (c.nextFire interval) then .endedClash else .rescheduled (c.nextFire interval) := by
  simp [Cue.continuation, ht, hi]

/-- The clash test against the table without the record of an id (R63, R110). -/
theorem clashes_removeCue {id : Byte} {live : List Cue} {ports : Port → Bool} {f : Frame} :
    clashes (removeCue id live) ports f = true
      ↔ ∃ d ∈ live, d.id ≠ id ∧ d.fire = f ∧ ∃ x ∈ d.participants, ports x.port = true := by
  simp [clashes_iff, and_assoc]

/-! ### The table after a retirement (R64, R108) -/

/-- The armed ports whose COMMIT is owed and unsent (R108, R109). -/
theorem inMask_unsentMask (c : Cue) (p : Port) :
    inMask c.unsentMask p = true ↔ inMask c.armed p = true ∧ c.notices[p].owed = some .commit := by
  simp [Cue.unsentMask, inMask_maskOf]

/-- The cues of the other ids stay. -/
theorem mem_retire_of_ne {w : Frame} {c d : Cue} {outcome : CueOutcome} {duty : Port → Option AbortReason} {s : Schedule}
    (hd : d ∈ s.live) (hid : d.id ≠ c.id) : d ∈ (s.retire w c outcome duty).live := by
  have hrest : d ∈ removeCue c.id s.live := (mem_removeCue _ _ _).2 ⟨hd, hid⟩
  rcases retire_live w c outcome duty s with he | ⟨f, _, he⟩ <;> rw [he]
  · exact hrest
  · exact (mem_insertCue _ _ _ _).2 (.inr hrest)

/-- Without a repetition the record leaves the table and nothing takes its place. -/
theorem retire_live_of_no_repetition {w : Frame} {c : Cue} {outcome : CueOutcome} {duty : Port → Option AbortReason}
    {s : Schedule} (h : ∀ f, c.continuation (removeCue c.id s.live) outcome.isTake ≠ .rescheduled f) :
    (s.retire w c outcome duty).live = removeCue c.id s.live := by
  rcases retire_live w c outcome duty s with he | ⟨f, hf, _⟩
  · exact he
  · exact absurd hf (h f)

/-- A repetition stands in the table with its entry test (R64, R110). -/
theorem repetition_mem_retire {w : Frame} {c : Cue} {outcome : CueOutcome} {duty : Port → Option AbortReason} {s : Schedule}
    {f : Frame} (h : c.continuation (removeCue c.id s.live) outcome.isTake = .rescheduled f) :
    (c.nextRepetition f).enter w ∈ (s.retire w c outcome duty).live := by
  simp [Schedule.retire, repeatInto, h]

/-! ### The record of the next repetition (R68, R93, R110) -/

/-- The new record by its entry test: nothing asked and nothing owed while it waits, and every participant asked and owed a
PREPARE otherwise. -/
theorem nextRepetition_enter {w f : Frame} {c n : Cue} (hn : n = (c.nextRepetition f).enter w) :
    n = { c with
        fire := f
        deferralsUsed := 0
        repeatCount := if c.repeatCount = 65535 then 65535 else c.repeatCount - 1
        participants := n.participants
        armed := 0
        state := if frameDiff f w > c.lead then .waiting else .asking
        notices := n.notices }
      ∧ n.participants = c.participants.map (fun x => { x with
          readiness := if n.state = .waiting then .notAsked else .asked })
      ∧ ∀ p : Port, n.notices[p] = ⟨if n.state = .asking ∧ c.hasPort p = true then some .prepare else none, false, false⟩ := by
  by_cases h : (c.lead : Int) < frameDiff f w
  · rw [enter_waits (c := c.nextRepetition f) rfl h] at hn
    subst hn
    rw [if_pos h]
    refine ⟨rfl, rfl, fun p => ?_⟩
    simp [Cue.nextRepetition, PortNotice.blank]
  · rw [enter_asks (c := c.nextRepetition f) (Int.not_lt.1 h)] at hn
    subst hn
    rw [if_neg h]
    refine ⟨rfl, ?_, fun p => ?_⟩
    · simp [Cue.ask, Cue.offerTo, Cue.nextRepetition, Cue.mapReadiness]
    · rw [ask_notices rfl, nextRepetition_hasPort]
      simp [Cue.ask, Cue.offerTo, Cue.mapReadiness]

/-- Settles O26: the outcome entry with its continuation, and the table by that continuation. -/
theorem retirementAndRepetition : Obligations.RetirementAndRepetition := by
  unfold Obligations.RetirementAndRepetition
  intro w c outcome duty sch
  refine ⟨c.outcomeEntry outcome (c.continuation (removeCue c.id sch.live) outcome.isTake), rfl, rfl, rfl, rfl, rfl, rfl, rfl,
    inMask_unsentMask c, fun d => mem_retire_of_ne, retire_live_of_no_repetition, fun h => continuation_none ?_,
    fun interval hi htake => ?_⟩
  · rwa [Ne, isTake_iff, not_or]
  · have hcontinuation := continuation_taken (live := removeCue c.id sch.live) ((isTake_iff outcome).2 htake) hi
    refine ⟨fun h0 => ?_, fun h0 hclash => ?_, fun h0 hfree => ?_⟩
    · exact hcontinuation.trans (if_pos h0)
    · have hc : clashes (removeCue c.id sch.live) c.hasPort (c.nextFire interval) = true := clashes_removeCue.2 hclash
      rw [if_neg h0, if_pos hc] at hcontinuation
      exact hcontinuation
    · have hno : ¬ clashes (removeCue c.id sch.live) c.hasPort (c.nextFire interval) = true := fun hc => by
        obtain ⟨d, hd, hid, hfire, x, hx, hport⟩ := clashes_removeCue.1 hc
        exact absurd hport (by simp [hfree d hd hid hfire x hx])
      rw [if_neg h0, if_neg hno] at hcontinuation
      exact ⟨hcontinuation, _, repetition_mem_retire hcontinuation, nextRepetition_enter rfl⟩

end Sys2Proof.Machine
end

section
/-! PROOFS. Schedule edits (chapters 4 and 5): the arbiter's choice (R75), and the checks and effects of ZONE_SET, PHASE_SET, PERMIT
and LOCK (R83, R85 to R87). -/

namespace Sys2Proof.Machine

/-! ### The arbiter (R74, R75, R88) -/

theorem headOf_append {before after : List EditSlot} {x : EditSlot} (hx : x.status = .queued)
    (hbefore : ∀ y ∈ before, y.status ≠ .queued) : headOf (before ++ x :: after) = some x := by
  have hnone : before.find? (fun y => decide (y.status = .queued)) = none := headOf_eq_none.2 hbefore
  rw [headOf, List.find?_append, hnone, Option.none_or, List.find?_cons_of_pos (by exact decide_eq_true hx)]

/-- Only the oldest QUEUED slot becomes ACTIVE (R72, R75). -/
theorem activateHead_append {before after : List EditSlot} {x : EditSlot} (hx : x.status = .queued)
    (hbefore : ∀ y ∈ before, y.status ≠ .queued) :
    activateHead (before ++ x :: after) = before ++ { x with status := .active false } :: after := by
  induction before with
  | nil => exact if_pos hx
  | cons y ys ih =>
    rw [List.cons_append, activateHead, if_neg (hbefore y List.mem_cons_self),
      ih fun z hz => hbefore z (List.mem_cons_of_mem _ hz)]
    rfl

/-- No port is served where nothing is QUEUED. -/
theorem nextPort_eq_none {eu : EditUnit} (h : ∀ q : Port, ∀ y ∈ eu.slots[q], y.status ≠ .queued) : eu.nextPort = none := by
  refine List.find?_eq_none.2 fun q _ => ?_
  rw [headOf_eq_none.2 (h q)]
  simp

/-- The port served is the first from the round-robin pointer on that has a head (R75). -/
theorem nextPort_first {eu : EditUnit} {k : Fin 6} {x : EditSlot} (hs : headOf eu.slots[eu.pointer + k] = some x)
    (hearlier : ∀ j : Fin 6, j < k → ∀ y ∈ eu.slots[eu.pointer + j], y.status ≠ .queued) :
    eu.nextPort = some (eu.pointer + k) := by
  have hat : ∀ (j : Nat) (hj : j < 6), (allPorts.map fun i => eu.pointer + i)[j]? = some (eu.pointer + ⟨j, hj⟩) := fun j hj => by
    have hports : ∀ i : Fin 6, allPorts[i.val]? = some i := by decide
    rw [List.getElem?_map, hports ⟨j, hj⟩, Option.map_some]
  refine List.find?_eq_some_iff_getElem.2 ⟨by rw [hs]; rfl, k.val, k.isLt, ?_, fun j hj => ?_⟩
  · exact (List.getElem_eq_iff _).2 (hat k.val k.isLt)
  · have hj6 := Nat.lt_trans hj k.isLt
    rw [(List.getElem_eq_iff _).2 (hat j hj6), headOf_eq_none.2 (hearlier ⟨j, hj6⟩ hj)]
    rfl

theorem startsSave_iff {eu : EditUnit} {p : Port} {x : EditSlot} :
    eu.startsSave p x = true ↔ Message.kind x.edit = some .save ∧ eu.permits[p].rights.save = true := by
  simp [EditUnit.startsSave]

/-- The arbiter of an IDLE unit takes the head of the port that it serves (R74, R75, R88, R166). -/
theorem arbitrate_serves {s : State} {p : Port} {x : EditSlot} (hi : s.eu.state = .idle) (hn : s.eu.nextPort = some p)
    (hs : headOf s.eu.slots[p] = some x) :
    s.arbitrate = { s with
      eu := { s.eu with
        slots := s.eu.slots.set p (activateHead s.eu.slots[p])
        pointer := p + 1
        state := if Message.kind x.edit = some .save ∧ s.eu.permits[p].rights.save = true then .storing else .working }
      page := if Message.kind x.edit = some .save ∧ s.eu.permits[p].rights.save = true then
        { s.page with state := .saving .erase s.settings, marker := false } else s.page } := by
  simp only [State.arbitrate, if_pos hi, hn, hs, startsSave_iff]
  split <;> rfl

/-- Settles O27: the first port with a head, and its oldest QUEUED slot. -/
theorem arbiterServesRoundRobin : Obligations.ArbiterServesRoundRobin := by
  unfold Obligations.ArbiterServesRoundRobin
  intro s k p x before after
  refine ⟨fun h => ?_, fun hi hp hearlier hslots hx hbefore => ?_⟩
  · rcases h with hbusy | hnone
    · exact arbitrate_busy s hbusy
    · simp only [State.arbitrate, nextPort_eq_none hnone, ite_self]
  · subst hp
    have hhead : headOf s.eu.slots[s.eu.pointer + k] = some x := by rw [hslots, headOf_append hx hbefore]
    rw [arbitrate_serves hi (nextPort_first hhead hearlier) hhead, hslots, activateHead_append hx hbefore]

/-! ### The completion of the ACTIVE edit (R76) -/

section
variable {kind : RequestKind} {outcome : Port → Message → State → EditOutcome} {apply : Port → Message → State → State}
  {s : State} {p : Port} {x : EditSlot}

/-- An edit that fails a check changes nothing but its slot (R76). -/
theorem complete_refused {o : EditOutcome} (hw : s.eu.state = .working) (ha : s.eu.active = some (p, x))
    (hk : Message.kind x.edit = some kind) (ho : outcome p x.edit s = o) (hne : o ≠ .accepted) :
    s.complete kind outcome apply = s.finishEdit p o := by
  rw [complete_active hw ha hk, ho, if_neg hne]

/-- An ACCEPTED edit is applied as it completes (R76). -/
theorem complete_accepted (hw : s.eu.state = .working) (ha : s.eu.active = some (p, x))
    (hk : Message.kind x.edit = some kind) (ho : outcome p x.edit s = .accepted) :
    s.complete kind outcome apply = (apply p x.edit s).finishEdit p .accepted := by
  rw [complete_active hw ha hk, if_pos ho]

end

/-! ### ZONE_SET (R41, R83, R151) -/

theorem ownerOk_iff {n : Nat} : ownerOk n = true ↔ n ≤ 5 ∨ n = 255 := by
  simp [ownerOk]

theorem zoneSetOutcome_protected {p : Port} {m : Message} {s : State} (h : s.eu.permits[p].rights.zone = false) :
    zoneSetOutcome p m s = .isProtected :=
  if_pos (by rw [h]; rfl)

theorem zoneSetOutcome_badField {p : Port} {m : Message} {s : State} (h : s.eu.permits[p].rights.zone = true)
    (hm : 7 < m.num 3 ∨ (5 < m.num 4 ∧ m.num 4 ≠ 255) ∨ 8 < m.num 5) : zoneSetOutcome p m s = .badField := by
  have howner : ownerOk (m.num 4) = false ↔ 5 < m.num 4 ∧ m.num 4 ≠ 255 := by
    rw [← Bool.not_eq_true, ownerOk_iff, not_or, Nat.not_le]
  rw [zoneSetOutcome, if_neg (by rw [h]; decide), if_pos (by rwa [howner])]

theorem zoneSetOutcome_accepted {p : Port} {m : Message} {s : State} (h : s.eu.permits[p].rights.zone = true)
    (h3 : m.num 3 ≤ 7) (h4 : m.num 4 ≤ 5 ∨ m.num 4 = 255) (h5 : m.num 5 ≤ 8) : zoneSetOutcome p m s = .accepted := by
  rw [zoneSetOutcome, if_neg (by rw [h]; decide), ownerOk_iff.2 h4]
  exact if_neg (not_or.2 ⟨Nat.not_lt.2 h3, not_or.2 ⟨by decide, Nat.not_lt.2 h5⟩⟩)

/-- The zone's new configuration, and its applied base held to the new limits (R151). -/
theorem zoneSetApply_eq {p : Port} {m : Message} {s : State} {z : ZoneId} (h : z.val = m.num 3) :
    zoneSetApply p m s = { s with dimmer := { s.dimmer with
      zones := s.dimmer.zones.set z { s.dimmer.zones[z] with
        config := m.zoneConfig, ba := max m.zoneConfig.dmin (min m.zoneConfig.dmax s.dimmer.zones[z].ba) } } } := by
  rw [zoneSetApply, zoneOf_eq_some.2 h.symm, ← clampNat_eq (zoneConfig_lawful m).limits.1]
  rfl

theorem zoneConfig_owner {m : Message} {q : Port} : m.zoneConfig.owner = some q ↔ q.val = m.num 4 :=
  portOf_eq_some.trans eq_comm

theorem zoneConfig_sensor {m : Message} {i : SensorId} : m.zoneConfig.sensor = some i ↔ i.val = m.num 5 :=
  (zoneOf_eq_some (n := m.num 5)).trans eq_comm

theorem zoneConfig_curve (m : Message) (i : Fin 9) : m.zoneConfig.curve[i] = min (m.num2 (15 + 2 * i.val)) 1000 := by
  simp [Message.zoneConfig, permille]

/-- Settles O34: the two checks, and an accepted configuration field by field. -/
theorem zoneSetStores : Obligations.ZoneSetStores := by
  unfold Obligations.ZoneSetStores
  intro s p x m hn hw ha hk
  refine ⟨s.complete .zoneSet zoneSetOutcome zoneSetApply, event_noStart hn _, fun hright => ?_, fun hright =>
    ⟨fun hbad => ?_, fun z hz h4 h5 => ⟨x.edit.zoneConfig, ?_, fun q => zoneConfig_owner, fun i => zoneConfig_sensor, rfl,
      zoneConfig_curve x.edit, clampNat_eq (by omega) _, rfl, rfl, clampNat_eq (by omega) _⟩⟩⟩
  · exact complete_refused hw ha hk (zoneSetOutcome_protected hright) (by decide)
  · exact complete_refused hw ha hk (zoneSetOutcome_badField hright hbad) (by decide)
  · have h3 : x.edit.num 3 ≤ 7 := hz ▸ Nat.le_of_lt_succ z.isLt
    rw [complete_accepted hw ha hk (zoneSetOutcome_accepted hright h3 h4 h5), zoneSetApply_eq hz]

/-! ### PHASE_SET (R85, R136, R137) -/

theorem echoModeOf_code (mode : EchoMode) : echoModeOf mode.code = some mode := by
  cases mode <;> rfl

theorem echoModeOf_none {n : Nat} (h : 3 < n) : echoModeOf n = none := by
  unfold echoModeOf
  split
  any_goals omega
  rfl

theorem phaseSetOutcome_protected {p : Port} {m : Message} {s : State} (hp : m.num 3 ≠ p.val)
    (h : s.eu.permits[p].rights.wall = false) : phaseSetOutcome p m s = .isProtected :=
  if_pos ⟨hp, h⟩

theorem phaseSetOutcome_permitted {p : Port} {m : Message} {s : State}
    (h : m.num 3 = p.val ∨ s.eu.permits[p].rights.wall = true) :
    phaseSetOutcome p m s = if 5 < m.num 3 ∨ (echoModeOf (m.num 4)).isNone then .badField else .accepted := by
  refine if_neg fun ⟨hp, hright⟩ => ?_
  rw [hright] at h
  exact h.elim hp Bool.false_ne_true

theorem phaseSetOutcome_badField {p : Port} {m : Message} {s : State}
    (h : m.num 3 = p.val ∨ s.eu.permits[p].rights.wall = true) (hm : 5 < m.num 3 ∨ 3 < m.num 4) :
    phaseSetOutcome p m s = .badField := by
  rw [phaseSetOutcome_permitted h]
  exact if_pos (hm.imp_right fun h4 => by rw [echoModeOf_none h4]; rfl)

theorem phaseSetOutcome_accepted {p q : Port} {m : Message} {s : State} {mode : EchoMode}
    (h : m.num 3 = p.val ∨ s.eu.permits[p].rights.wall = true) (hq : q.val = m.num 3) (hmode : mode.code = m.num 4) :
    phaseSetOutcome p m s = .accepted := by
  have hport : ¬ 5 < m.num 3 := by have := q.isLt; omega
  rw [phaseSetOutcome_permitted h, ← hmode, echoModeOf_code]
  exact if_neg (not_or.2 ⟨hport, Bool.false_ne_true⟩)

/-- Echo settings reach the named port's phase watch, and a changed status its composer (R136, R137). -/
theorem phaseSetApply_eq {p q : Port} {m : Message} {s : State} {mode : EchoMode} (hq : q.val = m.num 3)
    (hmode : mode.code = m.num 4) : phaseSetApply p m s = s.setWatch q (s.watch[q].set ⟨mode, m.num2 5⟩) := by
  rw [phaseSetApply, portOf_eq_some.2 hq.symm, ← hmode, echoModeOf_code]

theorem setWatch_eq (q : Port) (e : EchoWatch) (s : State) :
    s.setWatch q e = { s with
      watch := s.watch.set q e
      composers := s.composers.set q
        { s.composers[q] with stepOwed := s.composers[q].stepOwed || decide (e.status ≠ s.watch[q].status) } } := by
  rw [← noteStatus_eq]
  rfl

/-- The step status after a PHASE_SET, by the modes before and after it (R137). -/
theorem statusAfterMode_eq (before after : EchoMode) (status : StepStatus) :
    statusAfterMode before after status
      = if after = .unused then .unused else if before = .unused then .inStep else status := by
  cases after <;> cases before <;> rfl

/-- Settles O36: the two checks, and the settings of an accepted one at phase watch and composer. -/
theorem phaseSetStores : Obligations.PhaseSetStores := by
  unfold Obligations.PhaseSetStores
  intro s p x m hn hw ha hk
  refine ⟨s.complete .phaseSet phaseSetOutcome phaseSetApply, event_noStart hn _, fun hp hright => ?_, fun hright =>
    ⟨fun hbad => ?_, fun q mode hq hmode => ⟨statusAfterMode s.watch[q].settings.mode mode s.watch[q].status, ?_, ?_⟩⟩⟩
  · exact complete_refused hw ha hk (phaseSetOutcome_protected hp hright) (by decide)
  · exact complete_refused hw ha hk (phaseSetOutcome_badField hright hbad) (by decide)
  · rw [complete_accepted hw ha hk (phaseSetOutcome_accepted hright hq hmode), phaseSetApply_eq hq hmode, setWatch_eq]
    rfl
  · rw [statusAfterMode_eq]
    exact ⟨fun hm => if_pos hm, fun hm hb => by rw [if_neg hm, if_pos hb], fun hm hb => by rw [if_neg hm, if_neg hb]⟩

/-! ### PERMIT and LOCK (R44, R78, R86, R87) -/

theorem permitOutcome_protected {p : Port} {m : Message} {s : State} (h : s.eu.permits[p].rights.permit = false) :
    permitOutcome p m s = .isProtected :=
  if_pos (by rw [h]; rfl)

theorem permitOutcome_locked {p : Port} {m : Message} {s : State} (h : s.eu.permits[p].rights.permit = true)
    (hl : s.eu.lock = true) : permitOutcome p m s = .locked := by
  rw [permitOutcome, if_neg (by rw [h]; decide), if_pos hl]

/-- With the right, and while the lock is clear, a PERMIT is judged on the port that it names (R86). -/
theorem permitOutcome_unlocked {p : Port} {m : Message} {s : State} (h : s.eu.permits[p].rights.permit = true)
    (hl : s.eu.lock = false) : permitOutcome p m s = if 5 < m.num 3 then .badField else .accepted := by
  rw [permitOutcome, if_neg (by rw [h]; decide), if_neg (by rw [hl]; decide)]

theorem permitApply_eq {p q : Port} {m : Message} {s : State} (h : q.val = m.num 3) :
    permitApply p m s = { s with eu := { s.eu with permits := s.eu.permits.set q m.permission } } := by
  rw [permitApply, portOf_eq_some.2 h.symm]

/-- Bits 6 and 7 of a received set of ports stand for no port (R44). -/
theorem inMask_ofByte (b : Byte) (k : Port) : inMask (PortMask.ofByte b) k = b.getLsbD k.val := by
  simp [inMask, PortMask.ofByte, k.isLt]

theorem lockOutcome_protected {p : Port} {m : Message} {s : State} (h : s.eu.permits[p].rights.permit = false) :
    lockOutcome p m s = .isProtected :=
  if_pos (by rw [h]; rfl)

theorem lockOutcome_accepted {p : Port} {m : Message} {s : State} (h : s.eu.permits[p].rights.permit = true) :
    lockOutcome p m s = .accepted :=
  if_neg (by rw [h]; decide)

/-- Settles O37: the three checks of a PERMIT and the record it stores, and the one check of a LOCK. -/
theorem permitAndLock : Obligations.PermitAndLock := by
  unfold Obligations.PermitAndLock
  intro s p x m hn hw ha
  refine ⟨fun hk => ⟨s.complete .permit permitOutcome permitApply, event_noStart hn _, fun hright => ?_, fun hright =>
      ⟨fun hlock => ?_, fun hlock => ⟨fun hport => ?_, fun q hq => ⟨x.edit.permission, ?_, fun h => if_pos h,
        fun h => if_neg (Nat.not_le.2 h), inMask_ofByte _, rfl⟩⟩⟩⟩,
    fun hk => ⟨s.complete .lock lockOutcome lockApply, event_noStart hn _, fun hright => ?_, fun hright => ?_⟩⟩
  · exact complete_refused hw ha hk (permitOutcome_protected hright) (by decide)
  · exact complete_refused hw ha hk (permitOutcome_locked hright hlock) (by decide)
  · exact complete_refused hw ha hk ((permitOutcome_unlocked hright hlock).trans (if_pos hport)) (by decide)
  · have hport : ¬ 5 < x.edit.num 3 := by have := q.isLt; omega
    rw [complete_accepted hw ha hk ((permitOutcome_unlocked hright hlock).trans (if_neg hport)), permitApply_eq hq]
  · exact complete_refused hw ha hk (lockOutcome_protected hright) (by decide)
  · exact complete_accepted hw ha hk (lockOutcome_accepted hright)

end Sys2Proof.Machine
end

section
/-! PROOFS. The schedule edits of a cue (chapters 4 and 6): the seven checks of a CUE_PUT in their order (R79, R80), and the four of
a CUE_DROP with the retirement of an accepted drop (R82, R111). -/

namespace Sys2Proof.Machine

/-! ### The id range and the direct mask (R77, R79) -/

theorem coversId_iff {r : Permission} {id : Byte} :
    r.coversId id = true ↔ ∃ range ∈ r.idRange, range.1.toNat ≤ id.toNat ∧ id.toNat ≤ range.2.toNat := by
  unfold Permission.coversId
  cases r.idRange <;> simp

/-- The second check of a put (R79, step 2): an entry whose port the part does not have asks for no permission. -/
theorem allowsPut_entries {r : Permission} {m : Message} : r.allowsPut m = true
    ↔ r.coversId (m.char 3) = true ∧ ∀ e ∈ m.entries, ∀ q : Port, q.val = e.1 → inMask r.direct q = true := by
  rw [Permission.allowsPut, Bool.and_eq_true, List.all_eq_true]
  refine and_congr Iff.rfl (forall₂_congr fun e _ => ?_)
  cases h : portOf e.1 with
  | none =>
    rw [portOf_eq_none] at h
    exact iff_of_true rfl fun q hq => by have := q.isLt; omega
  | some p =>
    rw [portOf_eq_some] at h
    exact ⟨fun hp q hq => Fin.ext (hq.trans h) ▸ hp, fun hall => hall p h.symm⟩

theorem allowsPut_iff {r : Permission} {m : Message} : r.allowsPut m = true ↔ ¬ PutProtected r m := by
  rw [allowsPut_entries, coversId_iff]
  simp only [PutProtected, not_or, not_forall, not_exists, not_and, not_lt, Bool.not_eq_false, exists_prop]
  rfl

/-! ### The BAD_FIELD check of a put (R80) -/

theorem transitionOf_some {n : Nat} {t : Transition} (h : transitionOf n = some t) : n = t.code := by
  unfold transitionOf at h
  split at h <;> cases h <;> rfl

theorem policyOf_le {n : Nat} {policy : Policy} (h : policyOf n = some policy) : n ≤ 2 := by
  unfold policyOf at h
  split at h
  any_goals omega
  cases h

/-- A repeat interval that passes the check is at most 2^30, and if it is not 0 it exceeds its bound (R58, R80). -/
theorem intervalOk_cueOf {m : Message} {t : Transition} {policy : Policy} (h : (m.cueOf t policy).intervalOk = true) :
    m.num4 19 ≤ 2 ^ 30 ∧ (m.num4 19 ≠ 0 → (m.cueOf t policy).intervalFloor < m.num4 19) := by
  have hstored : (m.cueOf t policy).repeatInterval = storedInterval (m.num4 19) := rfl
  rw [Cue.intervalOk, hstored, storedInterval] at h
  by_cases h0 : m.num4 19 = 0
  · exact ⟨by omega, fun hne => absurd h0 hne⟩
  · rw [if_neg h0] at h
    simp only [Bool.and_eq_true, decide_eq_true_eq] at h
    exact ⟨h.2, fun _ => h.1⟩

/-- A put that has a record has no fault (R80). -/
theorem no_fault_of_putRecord {w : Frame} {m : Message} {c : Cue} (h : Message.putRecord w m = some c) : ¬ PutFault w m := by
  unfold Message.putRecord at h
  split at h
  case h_2 => cases h
  next t policy ht hp =>
  dsimp only at h
  split at h
  case isFalse => cases h
  next hok =>
  simp only [Bool.and_eq_true, decide_eq_true_eq] at hok
  obtain ⟨⟨⟨hentries, hahead⟩, hbelow⟩, hinterval⟩ := hok
  obtain ⟨hn1, hn6, hports, hnodup⟩ := (entriesOk_iff m).1 hentries
  obtain ⟨hle, hfloor⟩ := intervalOk_cueOf hinterval
  have hcode := transitionOf_some ht
  rintro (hn | ⟨e, he, hport⟩ | hdup | htransition | hpolicy | hrange | hlong | ⟨h0, hshort⟩)
  · omega
  · exact absurd (hports e he) (Nat.not_le.2 hport)
  · exact hdup hnodup
  · cases t <;> simp only [Transition.code] at hcode <;> omega
  · exact absurd (policyOf_le hp) (Nat.not_le.2 hpolicy)
  · rcases hrange with hneg | hfar
    · exact absurd hahead (Int.not_le.2 hneg)
    · exact absurd hbelow (Int.not_lt.2 hfar)
  · omega
  · have hfloor := hfloor h0
    rcases hshort with ⟨h8, hshort⟩ | ⟨h8, hshort⟩
    · cases t with
      | cut => rw [hcode] at h8; cases h8
      | dim => exact absurd hfloor (Nat.not_lt.2 hshort)
    · cases t with
      | cut => exact absurd hfloor (Nat.not_lt.2 hshort)
      | dim => rw [hcode] at h8; cases h8

theorem putRecord_eq_none {w : Frame} {m : Message} (h : PutFault w m) : Message.putRecord w m = none := by
  cases hc : Message.putRecord w m with
  | none => rfl
  | some c => exact absurd h (no_fault_of_putRecord hc)

/-! ### The seven checks of a CUE_PUT (R79) -/

/-- In a table of different ids a put is in flight where the live cue of its id has been asked (R79, step 4). -/
theorem cueInFlight_iff {id : Byte} {live : List Cue} (hids : (live.map (·.id)).Nodup) :
    cueInFlight id live = true ↔ ∃ d ∈ live, d.id = id ∧ d.state ≠ .waiting := by
  unfold cueInFlight
  cases hf : findCue id live with
  | none =>
    exact iff_of_false Bool.false_ne_true fun ⟨d, hd, hid, _⟩ => findCue_none.1 hf d hd hid
  | some c =>
    obtain ⟨hc, hcid⟩ := findCue_mem hf
    rw [decide_eq_true_iff]
    refine ⟨fun hs => ⟨c, hc, hcid, hs⟩, fun ⟨d, hd, hid, hs⟩ => ?_⟩
    have hdc : d = c := by rw [← hid, findCue_eq hids hd] at hf; exact Option.some.inj hf
    rwa [← hdc]

/-- The seventh check of a put: a new id and no free place (R53, R79). -/
theorem no_place_iff {id : Byte} {live : List Cue} :
    ((findCue id live).isNone && decide (tablePlaces ≤ live.length)) = true
      ↔ (∀ d ∈ live, d.id ≠ id) ∧ 64 ≤ live.length := by
  rw [Bool.and_eq_true, Option.isNone_iff_eq_none, findCue_none, decide_eq_true_iff, tablePlaces]

section
variable {p : Port} {m : Message} {s : State} {c : Cue}

theorem cuePutOutcome_noTimebase (h : s.wtb.state = .unset) : cuePutOutcome p m s = .noTimebase :=
  if_pos h

theorem cuePutOutcome_protected (hset : s.wtb.state ≠ .unset) (h : PutProtected s.eu.permits[p] m) :
    cuePutOutcome p m s = .isProtected := by
  have hallow : s.eu.permits[p].allowsPut m = false := Bool.eq_false_iff.2 fun ha => allowsPut_iff.1 ha h
  rw [cuePutOutcome, if_neg hset, hallow]
  rfl

theorem cuePutOutcome_badField (hset : s.wtb.state ≠ .unset) (h : ¬ PutProtected s.eu.permits[p] m)
    (hfault : PutFault s.wtb.w m) : cuePutOutcome p m s = .badField := by
  rw [cuePutOutcome, if_neg hset, allowsPut_iff.2 h, putRecord_eq_none hfault]
  rfl

/-- A put with a record is judged on what its id, its fire frame and its ports meet in the table (R79, steps 4 to 7). -/
theorem cuePutOutcome_record (hset : s.wtb.state ≠ .unset) (h : ¬ PutProtected s.eu.permits[p] m)
    (hc : Message.putRecord s.wtb.w m = some c) : cuePutOutcome p m s
      = if cueInFlight c.id s.sched.live then .inFlight
        else if ¬ (c.margin : Int) < c.ahead s.wtb.w then .tooSoon
        else if clashes (removeCue c.id s.sched.live) c.hasPort c.fire then .clash
        else if (findCue c.id s.sched.live).isNone && decide (tablePlaces ≤ s.sched.live.length) then .tableFull
        else .accepted := by
  rw [cuePutOutcome, if_neg hset, allowsPut_iff.2 h, hc]
  rfl

end

/-- An accepted put is stored with its entry test (R61, R93). -/
theorem cuePutApply_eq {p : Port} {m : Message} {s : State} {c : Cue} (h : Message.putRecord s.wtb.w m = some c) :
    cuePutApply p m s = { s with sched := s.sched.putCue s.wtb.w (c.enter s.wtb.w) } := by
  rw [cuePutApply, h]

/-- Settles O31: check by check, each on a put that has passed those before it. -/
theorem cuePutChecks : Obligations.CuePutChecks := by
  unfold Obligations.CuePutChecks
  intro s p x m hn hw ha hk hids
  have refused : ∀ {o : EditOutcome}, cuePutOutcome p x.edit s = o → o ≠ .accepted →
      s.complete .cuePut cuePutOutcome cuePutApply = s.finishEdit p o := complete_refused hw ha hk
  refine ⟨s.complete .cuePut cuePutOutcome cuePutApply, event_noStart hn _, fun hunset => ?_, fun hset =>
    ⟨fun hprotected => ?_, fun hpermitted => ?_⟩⟩
  · exact refused (cuePutOutcome_noTimebase hunset) (by decide)
  · exact refused (cuePutOutcome_protected hset hprotected) (by decide)
  refine ⟨fun hfault => refused (cuePutOutcome_badField hset hpermitted hfault) (by decide), fun c _ hc => ?_⟩
  have hout := cuePutOutcome_record hset hpermitted hc
  refine ⟨fun hflight => ?_, fun hwaiting => ?_⟩
  · exact refused (hout.trans (if_pos ((cueInFlight_iff hids).2 hflight))) (by decide)
  rw [if_neg (mt (cueInFlight_iff hids).1 fun ⟨d, hd, hid, hs⟩ => hs (hwaiting d hd hid))] at hout
  refine ⟨fun hsoon => ?_, fun hmargin => ?_⟩
  · exact refused (hout.trans (if_pos (Int.not_lt.2 hsoon))) (by decide)
  rw [if_neg (not_not.2 hmargin)] at hout
  refine ⟨fun hclash => ?_, fun hapart => ?_⟩
  · exact refused (hout.trans (if_pos (clashes_removeCue.2 hclash))) (by decide)
  rw [if_neg (mt clashes_removeCue.1 fun ⟨d, hd, hid, hfire, y, hy, hport⟩ =>
    Bool.false_ne_true ((hapart d hd hid hfire y hy).symm.trans hport))] at hout
  refine ⟨fun hnew hfull => ?_, fun hplace => ?_⟩
  · exact refused (hout.trans (if_pos (no_place_iff.2 ⟨hnew, hfull⟩))) (by decide)
  rw [if_neg (mt no_place_iff.1 fun ⟨hnew, hfull⟩ => hplace.elim (fun ⟨d, hd, hid⟩ => hnew d hd hid) (by omega))] at hout
  rw [complete_accepted hw ha hk hout, cuePutApply_eq hc]

/-! ### The four checks of a CUE_DROP (R82) -/

/-- Whether a drop comes too late (R82, step 4): the cue is TAKEN, or ARMED and its fade has begun. -/
theorem fadeBegun_iff {w : Frame} {c : Cue} :
    c.fadeBegun w = true ↔ c.transition = .dim ∧ c.ahead w < c.lo ∨ c.transition = .cut ∧ c.ahead w ≤ 0 := by
  unfold Cue.fadeBegun
  cases c.transition <;> simp

/-- An accepted drop owes each participant an ABORT, unless the cue has asked nothing yet (R111). -/
theorem dropDuty_eq (c : Cue) :
    c.dropDuty = fun q => if c.state ≠ .waiting ∧ c.hasPort q = true then some .dropped else none := by
  funext q
  unfold Cue.dropDuty
  cases c.state <;> simp [Cue.abortAll]

section
variable {p : Port} {m : Message} {s : State} {c : Cue}

theorem cueDropOutcome_noTimebase (h : s.wtb.state = .unset) : cueDropOutcome p m s = .noTimebase :=
  if_pos h

theorem cueDropOutcome_protected (hset : s.wtb.state ≠ .unset) (h : s.eu.permits[p].coversId (m.char 3) = false) :
    cueDropOutcome p m s = .isProtected := by
  rw [cueDropOutcome, if_neg hset, h]
  rfl

theorem cueDropOutcome_unknownCue (hset : s.wtb.state ≠ .unset) (h : s.eu.permits[p].coversId (m.char 3) = true)
    (hf : findCue (m.char 3) s.sched.live = none) : cueDropOutcome p m s = .unknownCue := by
  rw [cueDropOutcome, if_neg hset, h, hf]
  rfl

/-- A drop of a live cue in the requester's range is judged on the cue's state (R82). -/
theorem cueDropOutcome_live (hset : s.wtb.state ≠ .unset) (h : s.eu.permits[p].coversId (m.char 3) = true)
    (hf : findCue (m.char 3) s.sched.live = some c) : cueDropOutcome p m s
      = if c.state = .taken ∨ (c.state = .armed ∧ c.fadeBegun s.wtb.w = true) then .tooLate else .accepted := by
  rw [cueDropOutcome, if_neg hset, h, hf]
  rfl

/-- An accepted drop retires the live cue of the id (R111). -/
theorem cueDropApply_eq (hf : findCue (m.char 3) s.sched.live = some c) : cueDropApply p m s = { s with
    sched := s.sched.retire s.wtb.w c .dropped
      (fun q => if c.state ≠ .waiting ∧ c.hasPort q = true then some .dropped else none) } := by
  rw [cueDropApply, hf, ← dropDuty_eq]

end

/-- Settles O33: check by check, and the retirement that an accepted drop leaves. -/
theorem cueDropChecks : Obligations.CueDropChecks := by
  unfold Obligations.CueDropChecks
  intro s p x m hn hw ha hk hids
  have refused : ∀ {o : EditOutcome}, cueDropOutcome p x.edit s = o → o ≠ .accepted →
      s.complete .cueDrop cueDropOutcome cueDropApply = s.finishEdit p o := complete_refused hw ha hk
  refine ⟨s.complete .cueDrop cueDropOutcome cueDropApply, event_noStart hn _, fun hunset => ?_, fun hset =>
    ⟨fun hout => ?_, fun low high hrange hlow hhigh => ?_⟩⟩
  · exact refused (cueDropOutcome_noTimebase hunset) (by decide)
  · have hcovers : s.eu.permits[p].coversId (x.edit.char 3) = false := by
      refine Bool.eq_false_iff.2 fun hc => ?_
      obtain ⟨⟨low, high⟩, hrange, hlow, hhigh⟩ := coversId_iff.1 hc
      exact (hout low high hrange).elim (Nat.not_lt.2 hlow) (Nat.not_lt.2 hhigh)
    exact refused (cueDropOutcome_protected hset hcovers) (by decide)
  have hcovers : s.eu.permits[p].coversId (x.edit.char 3) = true := coversId_iff.2 ⟨(low, high), hrange, hlow, hhigh⟩
  refine ⟨fun hnew => ?_, fun c hc hid => ?_⟩
  · exact refused (cueDropOutcome_unknownCue hset hcovers (findCue_none.2 hnew)) (by decide)
  have hf : findCue (x.edit.char 3) s.sched.live = some c := hid ▸ findCue_eq hids hc
  have hout := cueDropOutcome_live hset hcovers hf
  simp only [fadeBegun_iff] at hout
  refine ⟨fun hlate => refused (hout.trans (if_pos hlate)) (by decide), fun hearly => ?_⟩
  have hnot : ¬ (c.state = .taken ∨ c.state = .armed ∧
      (c.transition = .dim ∧ c.ahead s.wtb.w < c.lo ∨ c.transition = .cut ∧ c.ahead s.wtb.w ≤ 0)) := by
    rcases hearly with hs | hs | ⟨hs, hdim, hcut⟩ <;> rw [hs]
    · simp
    · simp
    · rintro (htaken | ⟨-, ⟨ht, hlo⟩ | ⟨ht, hzero⟩⟩)
      · cases htaken
      · exact absurd (hdim ht) (Int.not_le.2 hlo)
      · exact absurd (hcut ht) (Int.not_lt.2 hzero)
  rw [complete_accepted hw ha hk (hout.trans (if_neg hnot)), cueDropApply_eq hf]

end Sys2Proof.Machine
end

section
/-! PROOFS. The permission records under the lock (R78): what every shared operation leaves of them, and then every command. -/

namespace Sys2Proof.Machine

/-- The permission records and the lock, as they stand (R77, R78). -/
def State.rules (s : State) : Vector Permission 6 × Bool :=
  (s.eu.permits, s.eu.lock)

theorem rules_eq_iff {s t : State} : t.rules = s.rules ↔ t.eu.permits = s.eu.permits ∧ t.eu.lock = s.eu.lock :=
  Prod.mk_inj

theorem rules_congr {s t : State} (h : t.eu = s.eu) : t.rules = s.rules := by
  rw [State.rules, h, State.rules]

/-! ### The shared operations -/

@[simp] theorem modifyLink_rules (p : Port) (f : Link → Link) (s : State) : (s.modifyLink p f).rules = s.rules := rfl

@[simp] theorem modifySlots_rules (p : Port) (f : List EditSlot → List EditSlot) (s : State) :
    (s.modifySlots p f).rules = s.rules := rfl

@[simp] theorem transmit_rules (p : Port) (k : Byte) (r : List Byte) (s : State) : (s.transmit p k r).rules = s.rules := rfl

@[simp] theorem arbitrate_rules (s : State) : s.arbitrate.rules = s.rules := by
  rcases arbitrate_cases s with h | ⟨p, slot, _, _, _, ⟨_, h⟩ | ⟨_, h⟩⟩ <;> rw [h] <;> rfl

@[simp] theorem refill_rules (p : Port) (s : State) : (s.refill p).rules = s.rules := by
  rcases refill_cases p s with h | ⟨m, _, _, h⟩ <;> rw [h]
  simp

@[simp] theorem finishEdit_rules (p : Port) (outcome : EditOutcome) (s : State) :
    (s.finishEdit p outcome).rules = s.rules := by
  rw [State.finishEdit, arbitrate_rules, refill_rules]
  rfl

@[simp] theorem completeSave_rules (outcome : EditOutcome) (s : State) : (s.completeSave outcome).rules = s.rules := by
  unfold State.completeSave
  split
  · rfl
  · exact finishEdit_rules _ _ _

/-- A completion keeps the records and the lock when what its ACCEPTED edit does keeps them. -/
theorem complete_rules {kind : RequestKind} {outcome : Port → Message → State → EditOutcome}
    {apply : Port → Message → State → State} {s : State}
    (h : ∀ p m, outcome p m s = .accepted → (apply p m s).rules = s.rules) :
    (s.complete kind outcome apply).rules = s.rules := by
  rcases complete_cases kind outcome apply s with hc | ⟨p, slot, _, _, _, ⟨ha, hc⟩ | ⟨_, hc⟩⟩ <;> rw [hc]
  · rw [finishEdit_rules, h p slot.edit ha]
  · rw [finishEdit_rules]

/-! ### Characters and sendings -/

@[simp] theorem placeEdit_rules (p : Port) (m : Message) (s : State) : (s.placeEdit p m).rules = s.rules := by
  unfold State.placeEdit
  split <;> simp

@[simp] theorem answer_rules (p : Port) (id : Byte) (entry : Cue → Readiness) (s : State) :
    (s.answer p id entry).rules = s.rules := by
  rcases answer_cases p id entry s with ⟨_, h⟩ | ⟨_, h⟩ | h <;> rw [h] <;> rfl

@[simp] theorem dispatch_rules (p : Port) (m : Message) (s : State) : (s.dispatch p m).rules = s.rules := by
  unfold State.dispatch
  split
  · rfl
  · exact answer_rules _ _ _ _
  · exact answer_rules _ _ _ _
  · rfl
  all_goals exact placeEdit_rules _ _ _

@[simp] theorem receive_rules (p : Port) (ch : LineChar) (s : State) : (s.receive p ch).rules = s.rules := by
  unfold State.receive
  dsimp only
  split
  · rfl
  · next m _ =>
    rcases deliver_cases p m { s with links := s.links.set p (s.links[p].receive ch).1 } with ⟨_, h⟩ | ⟨_, h⟩ <;> rw [h]
    · rfl
    · exact dispatch_rules _ _ _

@[simp] theorem send_rules (p : Port) (x : Choice) (s : State) : (s.send p x).rules = s.rules := by
  cases x with
  | editResult slot outcome => simp [State.send]
  | report subject index => exact rules_congr (reportEffects_keeps _ s).2
  | commit | retiredAbort | liveAbort | defer | prepare | step => rfl

@[simp] theorem startOn_rules (p : Port) (s : State) : (s.startOn p).rules = s.rules := by
  rcases startOn_cases p s with ⟨_, h⟩ | ⟨x, _, h⟩ <;> rw [h]
  exact send_rules p x s

@[simp] theorem atMoment_rules (m : Moment) (s : State) : (s.atMoment m).rules = s.rules := by
  cases m with
  | together => rfl
  | later =>
    exact startDue_induction (P := fun u => u.rules = s.rules) (fun p u hu => (startOn_rules p u).trans hu) rfl

/-! ### No start brings the page to the end of a load -/

theorem arbitrate_loading {s : State} {begun : Bool} (h : s.arbitrate.page.state = .loading begun) :
    s.page.state = .loading begun := by
  rcases arbitrate_cases s with he | ⟨p, slot, _, _, _, ⟨_, he⟩ | ⟨_, he⟩⟩ <;> rw [he] at h
  · exact h
  · cases h
  · exact h

theorem startOn_loading {p : Port} {s : State} {begun : Bool} (h : (s.startOn p).page.state = .loading begun) :
    s.page.state = .loading begun := by
  rcases startOn_cases p s with ⟨_, he⟩ | ⟨x, _, he⟩ <;> rw [he] at h
  · exact h
  cases x with
  | editResult slot outcome =>
    have h := arbitrate_loading h
    rw [refill_frame] at h
    exact h
  | report subject index =>
    rw [State.send, transmit_page, reportEffects_frame] at h
    exact h
  | commit | retiredAbort | liveAbort | defer | prepare | step => exact h

theorem atMoment_loading {m : Moment} {s : State} {begun : Bool} (h : (s.atMoment m).page.state = .loading begun) :
    s.page.state = .loading begun := by
  cases m with
  | together => exact h
  | later =>
    exact startDue_induction (P := fun u => u.page.state = .loading begun → s.page.state = .loading begun)
      (fun p u hu hl => hu (startOn_loading hl)) id h

/-! ### The edits -/

theorem cuePutApply_eu (p : Port) (m : Message) (s : State) : (cuePutApply p m s).eu = s.eu := by
  unfold cuePutApply; split <;> rfl

theorem cueDropApply_eu (p : Port) (m : Message) (s : State) : (cueDropApply p m s).eu = s.eu := by
  unfold cueDropApply; split <;> rfl

theorem zoneSetApply_eu (p : Port) (m : Message) (s : State) : (zoneSetApply p m s).eu = s.eu := by
  unfold zoneSetApply; split <;> rfl

theorem wallSetApply_eu (p : Port) (m : Message) (s : State) : (wallSetApply p m s).eu = s.eu := by
  unfold wallSetApply State.acceptWall
  split
  · rfl
  · split <;> rfl

theorem phaseSetApply_eu (p : Port) (m : Message) (s : State) : (phaseSetApply p m s).eu = s.eu := by
  unfold phaseSetApply; split <;> rfl

/-- While the lock is set no PERMIT is ACCEPTED (R78, R86). -/
theorem permitOutcome_of_locked {p : Port} {m : Message} {s : State} (hl : s.eu.lock = true) :
    permitOutcome p m s ≠ .accepted := by
  cases h : s.eu.permits[p].rights.permit with
  | false => rw [permitOutcome_protected h]; decide
  | true => rw [permitOutcome_locked h hl]; decide

theorem lockApply_rules {p : Port} {m : Message} {s : State} (hl : s.eu.lock = true) : (lockApply p m s).rules = s.rules :=
  rules_eq_iff.2 ⟨rfl, hl.symm⟩

/-! ### Every command -/

/-- An event whose effect keeps the records and the lock keeps them, whatever starts come before it. -/
theorem event_rules {m : Moment} {f : State → State} {s t : State} (h : s.event m f = .next t)
    (hf : (f (s.atMoment m)).rules = (s.atMoment m).rules) : t.rules = s.rules := by
  cases h
  rw [hf, atMoment_rules]

/-- Under the lock a command keeps the records and the lock, unless it resets the part or ends a load (R78). -/
theorem exec_rules {i : Instr} {s t : State} (hl : s.eu.lock = true) (h : exec i s = .next t)
    (hr : ∀ m, i ≠ .powerOnReset m ∧ i ≠ .pinReset m) (hload : (∀ rxd m, i ≠ .loadEnd rxd m) ∨ s.page.state ≠ .loading true) :
    t.rules = s.rules := by
  have hlock : ∀ m, (s.atMoment m).eu.lock = true := fun m => (rules_eq_iff.1 (atMoment_rules m s)).2.trans hl
  cases hp : sendPort i with
  | some p =>
    rcases exec_send_cases hp s with he | ⟨x, _, he⟩ <;> rw [he] at h <;> cases h
    · rfl
    · exact send_rules p x s
  | none =>
  rw [exec.eq_def] at h
  cases i with
  | prepare | defer | commit | abort | editResult | report | step => cases hp
  | powerOnReset m => exact absurd rfl (hr m).1
  | pinReset m => exact absurd rfl (hr m).2
  | loadEnd rxd m =>
    have hno : s.page.state ≠ .loading true := hload.resolve_left fun hne => hne rxd m rfl
    exact event_rules h (by rw [if_neg fun hb => hno (atMoment_loading hb)])
  | freeRunningStrobe | lateLimitStrobe | relockFrameLimit | loadStart => exact event_rules h (by split <;> rfl)
  | referenceEdge ticks o => exact event_rules h (by dsimp only; split <;> rfl)
  | intervalTooLong | framePulseEnd | messageEnd | stopBitEnd | returnToMark | erase | program | conversionEnd | wrap =>
    exact event_rules h rfl
  | receivedCharacter p ch m => exact event_rules h (receive_rules _ _ _)
  | editArrival | ready | unready | query => exact event_rules h (by split <;> simp)
  | lineBreak p m => exact event_rules h (by split <;> rfl)
  | ctsAsserted p level m => exact event_rules h (startOn_rules _ _)
  | cuePut m => exact event_rules h (complete_rules fun _ _ _ => rules_congr (cuePutApply_eu _ _ _))
  | cueDrop m => exact event_rules h (complete_rules fun _ _ _ => rules_congr (cueDropApply_eu _ _ _))
  | zoneSet m => exact event_rules h (complete_rules fun _ _ _ => rules_congr (zoneSetApply_eu _ _ _))
  | wallSet m => exact event_rules h (complete_rules fun _ _ _ => rules_congr (wallSetApply_eu _ _ _))
  | phaseSet m => exact event_rules h (complete_rules fun _ _ _ => rules_congr (phaseSetApply_eu _ _ _))
  | permit m => exact event_rules h (complete_rules fun _ _ ha => absurd ha (permitOutcome_of_locked (hlock m)))
  | lock m => exact event_rules h (complete_rules fun _ _ _ => lockApply_rules (hlock m))
  | save m =>
    refine event_rules h ?_
    split
    · exact completeSave_rules _ _
    · exact complete_rules fun _ _ _ => rfl
  | check found m =>
    refine event_rules h ?_
    repeat' split
    · rfl
    · exact completeSave_rules _ _
    · rfl
  | echoEdge p ticks m => exact event_rules h (by dsimp only; split <;> rfl)

/-- Settles O38: a PERMIT is LOCKED, a LOCK sets a lock that is set, and nothing else reaches the records. -/
theorem lockHoldsPermissions : Obligations.LockHoldsPermissions := by
  unfold Obligations.LockHoldsPermissions
  intro i s t hl h hr hload
  obtain ⟨hpermits, hlock⟩ := rules_eq_iff.1 (exec_rules hl h hr hload)
  exact ⟨hpermits, hlock.trans hl⟩

end Sys2Proof.Machine
end

section
/-! PROOFS. The arming unit between strobes (chapter 6): what a port reset makes of one live cue (R113, R128), and the readiness
answers, taken and discarded (R96 to R98). -/

namespace Sys2Proof.Machine

/-! ### Port reset (R113, R128) -/

/-- The duty that a port reset hands to the composer of the port for a cue (R113): the PREPARE of an ASKING cue again, the COMMIT
of an armed port, the ABORT of an excluded one. -/
def Cue.resetDuty (p : Port) (c : Cue) : Option CueNotice :=
  if c.hasPort p then
    match c.state with
    | .waiting => none
    | .asking => some .prepare
    | .armed | .taken => some (if inMask c.armed p then .commit else .abort .excluded)
  else none

theorem resetDuty_asking {c : Cue} {p : Port} (hs : c.state = .asking) (hp : c.hasPort p = true) :
    c.resetDuty p = some .prepare := by
  simp only [Cue.resetDuty, hp, hs, if_true]

theorem resetDuty_armed {c : Cue} {p : Port} (hs : c.state = .armed ∨ c.state = .taken) (hp : c.hasPort p = true) :
    c.resetDuty p = some (if inMask c.armed p then .commit else .abort .excluded) := by
  rcases hs with hs | hs <;> simp only [Cue.resetDuty, hp, hs, if_true]

theorem resetDuty_none {c : Cue} {p : Port} (h : c.state = .waiting ∨ c.hasPort p = false) : c.resetDuty p = none := by
  rcases h with h | h <;> simp [Cue.resetDuty, h]

/-- Nothing owed is merged with a new duty: the duty is owed, unless an ABORT has been sent (R117, R118). -/
theorem offer_clear {n : PortNotice} (h : n.owed = none) (duty : CueNotice) :
    n.offer duty = { n with owed := if n.abortSent then none else some duty } := by
  have hm : ∀ asked, mergeDuty duty none asked = some duty := fun _ => by cases duty <;> rfl
  unfold PortNotice.offer
  split
  · rw [← h]
  · rw [h, hm]

theorem clearOwed_notices (c : Cue) (p q : Port) :
    (c.clearOwed p).notices[q] = if q = p then { c.notices[q] with owed := none } else c.notices[q] :=
  modifyAt_get _ _ _ _

/-- What a port reset makes of a cue, by the duty that it hands out (R113). -/
theorem cuePortReset_cases (c : Cue) (p : Port) :
    c.resetDuty p = none ∧ c.portReset p = c
      ∨ (c.state = .asking ∧ c.hasPort p = true) ∧ c.portReset p = (c.setReadiness p .asked).offerTo .prepare (· == p)
      ∨ (c.state = .armed ∨ c.state = .taken) ∧ ∃ duty, c.resetDuty p = some duty ∧ c.portReset p = c.offerTo duty (· == p) := by
  cases hp : c.hasPort p with
  | false => exact .inl ⟨resetDuty_none (.inr hp), by simp [Cue.portReset, hp]⟩
  | true =>
    cases hs : c.state with
    | waiting => exact .inl ⟨resetDuty_none (.inl hs), by simp [Cue.portReset, hs]⟩
    | asking => exact .inr (.inl ⟨⟨rfl, rfl⟩, by simp only [Cue.portReset, hp, hs, if_true]⟩)
    | armed | taken =>
      refine .inr (.inr ⟨by simp, _, resetDuty_armed (by simp [hs]) hp, ?_⟩)
      cases hm : inMask c.armed p <;> simp [Cue.portReset, hp, hs, hm]

/-- The notices after a port reset: on the port itself the duty of R113 alone is owed, the sent-history is kept (R128), and the
other ports keep theirs. -/
theorem cuePortReset_notices (c : Cue) (p q : Port) :
    ((c.clearOwed p).portReset p).notices[q]
      = if q = p then { c.notices[q] with owed := if c.notices[q].abortSent then none else c.resetDuty p }
        else c.notices[q] := by
  have hoffer : ∀ (d : Cue) (duty : CueNotice), d.notices = (c.clearOwed p).notices →
      (d.offerTo duty (· == p)).notices[q]
        = if q = p then { c.notices[q] with owed := if c.notices[q].abortSent then none else some duty }
          else c.notices[q] := by
    intro d duty hd
    rw [offerTo_notices, hd, clearOwed_notices]
    by_cases hq : q = p
    · simp only [hq, beq_self_eq_true, if_true]
      exact offer_clear rfl duty
    · simp only [hq, beq_iff_eq, if_false]
  rcases cuePortReset_cases (c.clearOwed p) p with ⟨hd, he⟩ | ⟨⟨hs, hp⟩, he⟩ | ⟨_, duty, hd, he⟩ <;> rw [he]
  · rw [clearOwed_notices, show c.resetDuty p = none from hd, ite_self]
  · rw [hoffer ((c.clearOwed p).setReadiness p .asked) .prepare rfl, resetDuty_asking (c := c) hs hp]
  · rw [hoffer _ _ rfl, show c.resetDuty p = some duty from hd]

/-- The readiness entries after a port reset: the port's own entry in an ASKING cue is ASKED, and every other is kept (R113). -/
theorem cuePortReset_participants (c : Cue) (p : Port) :
    (c.portReset p).participants
      = if c.state = .asking ∧ c.hasPort p = true then (c.setReadiness p .asked).participants else c.participants := by
  rcases cuePortReset_cases c p with ⟨hd, he⟩ | ⟨h, he⟩ | ⟨h, duty, _, he⟩ <;> rw [he]
  · rw [if_neg fun h => by rw [resetDuty_asking h.1 h.2] at hd; cases hd]
  · rw [if_pos h]; rfl
  · rw [if_neg fun ha => by rcases h with h | h <;> rw [ha.1] at h <;> cases h]; rfl

/-- A BREAK that the detector recognises is a port reset (R32). -/
theorem exec_lineBreak {s : State} {p : Port} {m : Moment} (hn : s.NoStartBefore m) (hd : s.links[p].detector = .measuring) :
    exec (.lineBreak p m) s = .next (s.portReset p) :=
  (event_noStart hn fun u => if u.links[p].detector = .measuring then u.portReset p else u).trans
    (congrArg Host.Outcome.next (if_pos hd))

/-- Settles O20: the composer's clearing and the arming unit's answer to it, cue by cue. -/
theorem portResetOfCue : Obligations.PortResetOfCue := by
  unfold Obligations.PortResetOfCue
  intro s p c m hn hd hc
  have hlive : (c.clearOwed p).portReset p ∈ (s.portReset p).sched.live := List.mem_map_of_mem hc
  have hown := cuePortReset_notices c p p
  rw [if_pos rfl] at hown
  have hparticipants := cuePortReset_participants (c.clearOwed p) p
  refine ⟨_, _, exec_lineBreak hn hd, hlive, by rw [cuePortReset_frame]; rfl, ?_, by rw [hown], by rw [hown], fun q hq => ?_,
    fun ha => ?_, fun hs hp => ⟨fun x hx hxp => ?_, fun x hx hxp => ?_, fun ha => ?_⟩, fun hs hp => ⟨?_, fun ha => ?_⟩,
    fun h => ⟨?_, ?_⟩⟩
  · rw [hparticipants]
    split
    · rw [Cue.setReadiness, List.map_map]
      refine List.map_congr_left fun x _ => ?_
      simp only [Function.comp]
      split <;> rfl
    · rfl
  · rw [cuePortReset_notices, if_neg hq]
  · rw [hown, ha]; rfl
  · rw [hparticipants, if_pos ⟨hs, hp⟩] at hx
    obtain ⟨y, _, rfl⟩ := List.mem_map.1 hx
    by_cases hy : (y.port == p) = true
    · rw [if_pos hy]
    · rw [if_neg hy] at hxp
      exact absurd (beq_iff_eq.2 hxp) hy
  · rw [hparticipants, if_pos ⟨hs, hp⟩]
    exact List.mem_map.2 ⟨x, hx, if_neg fun h => hxp (beq_iff_eq.1 h)⟩
  · rw [hown, ha, resetDuty_asking hs hp]; rfl
  · rw [hparticipants, if_neg fun h => by rcases hs with hs | hs <;> cases hs.symm.trans h.1]; rfl
  · rw [hown, ha, resetDuty_armed hs hp]
    exact apply_ite some _ _ _
  · rw [hparticipants, if_neg fun ha => by
      rcases h with h | h
      · cases h.symm.trans ha.1
      · cases h.symm.trans ha.2]
    rfl
  · rw [hown, resetDuty_none h, ite_self]

/-! ### Readiness answers (R96 to R98) -/

/-- In a table of different ids the lookup finds exactly the live cues (R65). -/
theorem findCue_iff {id : Byte} {c : Cue} {l : List Cue} (hl : (l.map (·.id)).Nodup) :
    findCue id l = some c ↔ c ∈ l ∧ c.id = id :=
  ⟨findCue_mem, fun ⟨hc, hid⟩ => hid ▸ findCue_eq hl hc⟩

/-- What an answer finds of its cue, by a test of the cue that it looks up. -/
theorem findCue_test {id : Byte} {l : List Cue} (hl : (l.map (·.id)).Nodup) {test : Cue → Prop} :
    (∃ c, findCue id l = some c ∧ test c) ↔ ∃ c ∈ l, c.id = id ∧ test c := by
  simp only [findCue_iff hl, and_assoc]

theorem takesAnswer_iff {id : Byte} {p : Port} {s : Schedule} (hl : (s.live.map (·.id)).Nodup) :
    s.takesAnswer id p = true ↔ ∃ c ∈ s.live, c.id = id ∧ c.state = .asking ∧ c.hasPort p = true := by
  rw [← findCue_test hl]
  unfold Schedule.takesAnswer
  cases findCue id s.live <;> simp

theorem straysAnswer_iff {id : Byte} {p : Port} {s : Schedule} (hl : (s.live.map (·.id)).Nodup) :
    s.straysAnswer id p = true ↔ ¬ ∃ c ∈ s.live, c.id = id ∧ c.state = .armed ∧ c.hasPort p = true := by
  rw [← findCue_test hl]
  unfold Schedule.straysAnswer
  cases findCue id s.live <;> simp [imp_iff_not_or]

/-- The token of a participant (R55). -/
theorem tokenOf_eq {c : Cue} {x : Participant} (hports : (c.participants.map (·.port)).Nodup) (hx : x ∈ c.participants) :
    c.tokenOf x.port = x.token := by
  have hfind : c.participants.find? (fun y => y.port == x.port) = some x := by
    obtain ⟨y, hy⟩ := Option.isSome_iff_exists.1 (List.find?_isSome (p := fun y => y.port == x.port).2 ⟨x, hx, beq_self_eq_true _⟩)
    have hport : y.port = x.port := beq_iff_eq.1 (List.find?_some (p := fun y : Participant => y.port == x.port) hy)
    rw [hy, List.inj_on_of_nodup_map hports (List.mem_of_find?_eq_some hy) hx hport]
  rw [Cue.tokenOf, hfind]
  rfl

/-- A taken answer changes the entry of its port in its cue alone (R96, R97). -/
theorem answer_taken {s : State} {p : Port} {c : Cue} (hids : (s.sched.live.map (·.id)).Nodup) (hc : c ∈ s.sched.live)
    (hs : c.state = .asking) (hp : c.hasPort p = true) (entry : Cue → Readiness) (links : Vector Link 6) :
    State.answer p c.id entry { s with links := links } = { s with
      links := links
      sched := { s.sched with live := s.sched.live.map fun d => if d.id = c.id then
        { d with participants := d.participants.map fun y => if y.port = p then { y with readiness := entry c } else y }
        else d } } := by
  have htakes : s.sched.takesAnswer c.id p = true := (takesAnswer_iff hids).2 ⟨c, hc, rfl, hs, hp⟩
  have hlive : (s.sched.updateCue c.id fun d => d.setReadiness p (entry d)).live = s.sched.live.map fun d =>
      if d.id = c.id then
        { d with participants := d.participants.map fun y => if y.port = p then { y with readiness := entry c } else y }
      else d := by
    refine List.map_congr_left fun d hd => ?_
    by_cases hid : d.id = c.id
    · obtain rfl := List.inj_on_of_nodup_map hids hd hc hid
      simp only [Cue.setReadiness, beq_iff_eq, if_true]
    · simp only [beq_iff_eq, hid, if_false]
  rw [State.answer, if_pos (by exact htakes), ← hlive]
  rfl

/-- A discarded answer sets STRAY or changes nothing (R98). -/
theorem answer_discarded {s : State} {p : Port} {id : Byte} (hids : (s.sched.live.map (·.id)).Nodup)
    (hno : ¬ ∃ c ∈ s.sched.live, c.id = id ∧ c.state = .asking ∧ c.hasPort p = true) (entry : Cue → Readiness) (l : Link) :
    State.answer p id entry { s with links := s.links.set p l } = { s with
      links := s.links.set p { l with flags := { l.flags with stray := l.flags.stray || s.sched.straysAnswer id p } } } := by
  rw [State.answer, if_neg fun h => hno ((takesAnswer_iff hids).1 h)]
  dsimp only
  cases s.sched.straysAnswer id p with
  | true =>
    rw [if_pos rfl, modifyLink_eq_set, set_get, if_pos rfl, Bool.or_true]
    exact setLink_set s p _ _
  | false => rw [if_neg Bool.false_ne_true, Bool.or_false]

/-- The character that completes a READY (R23, R52). -/
theorem receive_ready {l : Link} {id high : Byte} (hr : l.receiver = .ready) (hx : l.rx = .assembling [32, id, high] 3)
    (low : Byte) : l.receive (outgoing false low) = ({ l with rx := .hunting }, some [32, id, high, low]) :=
  (link_receive_data hr low).trans (dataCharacter_last hx rfl)

/-- The character that completes an UNREADY (R23, R52). -/
theorem receive_unready {l : Link} {id : Byte} (hr : l.receiver = .ready) (hx : l.rx = .assembling [33, id] 2) (reason : Byte) :
    l.receive (outgoing false reason) = ({ l with rx := .hunting }, some [33, id, reason]) :=
  (link_receive_data hr reason).trans (dataCharacter_last hx rfl)

/-- A message that no waiting edit stands before goes to its block (R25, R26). -/
theorem deliver_dispatch {s : State} {p : Port} {l : Link} (hh : l.holding = none) (m : Message) :
    State.deliver p m { s with links := s.links.set p l } = State.dispatch p m { s with links := s.links.set p l } := by
  have hl : (s.links.set p l)[p] = l := by rw [set_get, if_pos rfl]
  rw [State.deliver, if_neg (by rw [hl, hh]; simp)]

/-- READY names the arrival of the character that completes a READY, which the arming unit answers (R96; log 8). -/
theorem exec_ready {s : State} {p : Port} {id high low : Byte} {m : Moment} (hn : s.NoStartBefore m)
    (hr : s.links[p].receiver = .ready) (hh : s.links[p].holding = none) (hx : s.links[p].rx = .assembling [32, id, high] 3) :
    exec (.receivedCharacter p (outgoing false low) m) s = exec (.ready p low m) s
      ∧ exec (.ready p low m) s = .next (State.answer p id
          (fun c => c.readyEntry p (BitVec.ofNat 16 (256 * high.toNat + low.toNat)))
          { s with links := s.links.set p { s.links[p] with rx := .hunting } }) := by
  have hrecv := receive_ready hr hx low
  have hreceive := (receive_complete hrecv).trans (deliver_dispatch (by exact hh) _)
  have hkind : s.completesKind p low = some .ready := by rw [State.completesKind, hrecv]; rfl
  have hready : exec (.ready p low m) s = .next (s.receive p (outgoing false low)) :=
    (event_noStart hn fun u => if u.completesKind p low = some .ready then u.receive p (outgoing false low) else u).trans
      (congrArg Host.Outcome.next (if_pos hkind))
  exact ⟨(event_noStart hn _).trans hready.symm, by rw [hready, hreceive]; rfl⟩

/-- UNREADY names the arrival of the character that completes an UNREADY, which the arming unit answers (R96; log 8). -/
theorem exec_unready {s : State} {p : Port} {id reason : Byte} {m : Moment} (hn : s.NoStartBefore m)
    (hr : s.links[p].receiver = .ready) (hh : s.links[p].holding = none) (hx : s.links[p].rx = .assembling [33, id] 2) :
    exec (.receivedCharacter p (outgoing false reason) m) s = exec (.unready p reason m) s
      ∧ exec (.unready p reason m) s = .next (State.answer p id (fun _ => .refused reason)
          { s with links := s.links.set p { s.links[p] with rx := .hunting } }) := by
  have hrecv := receive_unready hr hx reason
  have hreceive := (receive_complete hrecv).trans (deliver_dispatch (by exact hh) _)
  have hkind : s.completesKind p reason = some .unready := by rw [State.completesKind, hrecv]; rfl
  have hunready : exec (.unready p reason m) s = .next (s.receive p (outgoing false reason)) :=
    (event_noStart hn fun u => if u.completesKind p reason = some .unready then u.receive p (outgoing false reason)
      else u).trans (congrArg Host.Outcome.next (if_pos hkind))
  exact ⟨(event_noStart hn _).trans hunready.symm, by rw [hunready, hreceive]; rfl⟩

/-- Settles O21: the answer finds its cue by id, and the participant's token decides a READY. -/
theorem answerIsTaken : Obligations.AnswerIsTaken := by
  unfold Obligations.AnswerIsTaken
  intro s p c x high low reason m hn hids hc hs hports hx hxp hr hh
  subst hxp
  have hp := hasPort_of_mem hx
  refine ⟨fun hrx => ?_, fun hrx => ?_⟩
  · obtain ⟨hchar, hready⟩ := exec_ready (low := low) hn hr hh hrx
    rw [answer_taken hids hc hs hp, Cue.readyEntry, tokenOf_eq hports hx] at hready
    exact ⟨hchar, hready⟩
  · obtain ⟨hchar, hunready⟩ := exec_unready (reason := reason) hn hr hh hrx
    rw [answer_taken hids hc hs hp] at hunready
    exact ⟨hchar, hunready⟩

/-- Settles O22: an answer that finds no ASKING cue of its port reaches the STRAY flag at most. -/
theorem answerIsDiscarded : Obligations.AnswerIsDiscarded := by
  unfold Obligations.AnswerIsDiscarded
  intro s p id high last i m hn hids hno hr hh hi
  obtain ⟨entry, he⟩ : ∃ entry, exec i s = .next (State.answer p id entry
      { s with links := s.links.set p { s.links[p] with rx := .hunting } }) := by
    rcases hi with ⟨hx, rfl⟩ | ⟨hx, rfl⟩
    · exact ⟨_, (exec_ready hn hr hh hx).2⟩
    · exact ⟨_, (exec_unready hn hr hh hx).2⟩
  rw [answer_discarded hids hno] at he
  refine ⟨_, he, ?_, fun harmed => ?_, fun hnone => ?_⟩ <;> simp only [set_get, if_true]
  · have hstray := mt (straysAnswer_iff hids).1 (not_not.2 harmed)
    simp [hstray]
  · simp [(straysAnswer_iff hids).2 hnone]

end Sys2Proof.Machine
end

section
/-! PROOFS. The strobe at the arming unit (R95, R99 to R103): an examination reaches the record of its own cue alone, so that each
cue of the table is examined as the strobe found it; the transitions of a cue, and the decisions at a failed deadline. -/

namespace Sys2Proof.Machine

/-! ### What an examination leaves of the table -/

/-- A table in which one id has been settled: as it was, without the record of the id, or with a record of the same id in its
place. -/
def SettledAt (w : Frame) (id : Byte) (l m : List Cue) : Prop :=
  m = l ∨ m = removeCue id l ∨ ∃ d, d.id = id ∧ m = insertCue w d (removeCue id l)

theorem SettledAt.mem_iff {w : Frame} {id : Byte} {l m : List Cue} (h : SettledAt w id l m) {d : Cue} (hd : d.id ≠ id) :
    d ∈ m ↔ d ∈ l := by
  have hremove : d ∈ removeCue id l ↔ d ∈ l := by rw [mem_removeCue]; exact and_iff_left hd
  rcases h with rfl | rfl | ⟨e, he, rfl⟩
  · rfl
  · exact hremove
  · rw [mem_insertCue, hremove]
    exact or_iff_right fun h => hd (h ▸ he)

theorem SettledAt.ids_nodup {w : Frame} {id : Byte} {l m : List Cue} (h : SettledAt w id l m) (hl : (l.map (·.id)).Nodup) :
    (m.map (·.id)).Nodup := by
  have hremove : ((removeCue id l).map (·.id)).Nodup := hl.sublist ((removeCue_sublist id l).map _)
  rcases h with rfl | rfl | ⟨e, he, rfl⟩
  · exact hl
  · exact hremove
  · rw [((insertCue_perm w e _).map _).nodup_iff, List.map_cons, List.nodup_cons]
    refine ⟨fun hm => ?_, hremove⟩
    obtain ⟨d, hd, hid⟩ := List.mem_map.1 hm
    exact ((mem_removeCue _ _ _).1 hd).2 (hid.trans he)

theorem settledAt_putCue (w : Frame) {c d : Cue} (hid : d.id = c.id) (s : Schedule) :
    SettledAt w c.id s.live (s.putCue w d).live :=
  .inr (.inr ⟨d, hid, by rw [Schedule.putCue, hid]⟩)

theorem settledAt_retire (w : Frame) (c : Cue) (outcome : CueOutcome) (duty : Port → Option AbortReason) (s : Schedule) :
    SettledAt w c.id s.live (s.retire w c outcome duty).live := by
  rcases retire_live w c outcome duty s with he | ⟨f, _, he⟩
  · exact .inr (.inl he)
  · exact .inr (.inr ⟨(c.nextRepetition f).enter w, enter_id w _, he⟩)

theorem settledAt_deadline (w : Frame) (status : Vector StepStatus 6) (c : Cue) (s : Schedule) :
    SettledAt w c.id s.live (s.deadline w status c).live := by
  rcases deadline_cases w status c s with ⟨_, he⟩ | ⟨_, _, he⟩ | ⟨_, _, he⟩ | he <;> rw [he]
  · exact settledAt_putCue w rfl s
  · unfold Schedule.deferCue
    split
    · exact settledAt_retire _ _ _ _ _
    · exact settledAt_putCue w rfl s
  · exact settledAt_putCue w rfl s
  · exact settledAt_retire _ _ _ _ _

theorem settledAt_takeCue (w : Frame) (c : Cue) (s : Schedule) : SettledAt w c.id s.live (s.takeCue w c).live := by
  unfold Schedule.takeCue
  split
  · exact settledAt_retire w c _ _ (s.assertTake c.armed)
  · exact settledAt_putCue w rfl (s.assertTake c.armed)

/-- An examination settles its cue and no other (R95). -/
theorem settledAt_examine (w : Frame) (status : Vector StepStatus 6) (c : Cue) (s : Schedule) :
    SettledAt w c.id s.live (s.examine w status c).live := by
  rcases examine_cases w status c s with he | ⟨_, _, he⟩ | ⟨_, _, he⟩ | ⟨_, _, he⟩ | ⟨_, _, he⟩ <;> rw [he]
  · exact .inl rfl
  · exact settledAt_putCue w rfl s
  · exact settledAt_deadline w status c s
  · exact settledAt_takeCue w c s
  · exact settledAt_retire _ _ _ _ _

/-- In a table of different ids the examination by id is that of the live cue. -/
theorem examineId_eq {w : Frame} {status : Vector StepStatus 6} {c : Cue} {s : Schedule} (hids : (s.live.map (·.id)).Nodup)
    (hc : c ∈ s.live) : s.examineId w status c.id = s.examine w status c := by
  rw [Schedule.examineId, findCue_eq hids hc]

/-- An examination by id examines the cue that has it, if one is live. -/
theorem examineId_cases (w : Frame) (status : Vector StepStatus 6) (s : Schedule) (id : Byte) :
    (∀ c ∈ s.live, c.id ≠ id) ∧ s.examineId w status id = s
      ∨ ∃ c ∈ s.live, c.id = id ∧ s.examineId w status id = s.examine w status c := by
  unfold Schedule.examineId
  cases hf : findCue id s.live with
  | none => exact .inl ⟨findCue_none.1 hf, rfl⟩
  | some c =>
    obtain ⟨hc, hid⟩ := findCue_mem hf
    exact .inr ⟨c, hc, hid, rfl⟩

theorem settledAt_examineId (w : Frame) (status : Vector StepStatus 6) (s : Schedule) (id : Byte) :
    SettledAt w id s.live (s.examineId w status id).live := by
  rcases examineId_cases w status s id with ⟨_, he⟩ | ⟨c, _, rfl, he⟩ <;> rw [he]
  · exact .inl rfl
  · exact settledAt_examine w status c s

/-! ### What the examinations of several cues leave of it -/

theorem examineAll_mem_iff {w : Frame} {status : Nat → Vector StepStatus 6} {d : Cue} {cues : List (Cue × Nat)}
    (hd : d.id ∉ cues.map (·.1.id)) (s : Schedule) : d ∈ (s.examineAll w status cues).live ↔ d ∈ s.live := by
  induction cues generalizing s with
  | nil => rfl
  | cons x cues ih =>
    rw [List.map_cons, List.mem_cons, not_or] at hd
    rw [examineAll_cons, ih hd.2, (settledAt_examineId _ _ _ _).mem_iff hd.1]

theorem examineAll_ids_nodup {w : Frame} {status : Nat → Vector StepStatus 6} (cues : List (Cue × Nat)) {s : Schedule}
    (hids : (s.live.map (·.id)).Nodup) : ((s.examineAll w status cues).live.map (·.id)).Nodup := by
  induction cues generalizing s with
  | nil => exact hids
  | cons x cues ih =>
    rw [examineAll_cons]
    exact ih ((settledAt_examineId _ _ _ _).ids_nodup hids)

theorem zipIdx_ids (cues : List Cue) (k : Nat) : (cues.zipIdx k).map (·.1.id) = cues.map (·.id) := by
  rw [← Function.comp_def (fun c : Cue => c.id) Prod.fst, ← List.map_map, List.zipIdx_map_fst]

/-- The step statuses that the examination of number `k` reads (R99, R100). -/
def State.statuses (s : State) (o : StrobeOrder) (k : Nat) : Vector StepStatus 6 :=
  statusesAt o s.watch (mapAt (fun _ e => e.strobe) s.watch) k

theorem statuses_get (s : State) (o : StrobeOrder) (k : Nat) (p : Port) : (s.statuses o k)[p] = s.statusAt o k p :=
  statusesAt_get s o k p

/-- A strobe examines every cue of the table, at the W that it counts (R95). -/
theorem exec_strobe_sched {i : Instr} {s : State} {o : StrobeOrder} (ho : strobeOf i s = some o)
    (hn : s.NoStartBefore o.moment) :
    ∃ t, exec i s = .next t ∧ t.sched = s.examined o s.sched.live 0 s.sched.takeLow := by
  obtain ⟨t, ht, hw, -⟩ := exec_of_strobeOf ho
  rw [atMoment_noStart hn] at ht
  refine ⟨_, ht, ?_⟩
  show s.sched.strobe t.strobe.w _ = _
  rw [wtbStrobe_w, hw]
  rfl

section
variable {s : State} {o : StrobeOrder} {c : Cue} {earlier later : List Cue}

/-- A strobe examines a cue as it was found, between the cues before it and after it in fire order. -/
theorem examined_split (hids : (s.sched.live.map (·.id)).Nodup) (hlive : s.sched.live = earlier ++ c :: later) :
    c ∈ (s.examined o earlier 0 s.sched.takeLow).live
      ∧ ((s.examined o earlier 0 s.sched.takeLow).live.map (·.id)).Nodup
      ∧ s.examined o s.sched.live 0 s.sched.takeLow = s.examined o later (earlier.length + 1)
        ((s.examined o earlier 0 s.sched.takeLow).examine (s.wtb.w + 1) (s.statuses o earlier.length) c) := by
  have hnodup := hids
  rw [hlive, List.map_append, List.map_cons, List.nodup_append] at hnodup
  obtain ⟨-, -, hearlier⟩ := hnodup
  have hc : c ∈ (s.examined o earlier 0 s.sched.takeLow).live := by
    refine (examineAll_mem_iff (fun hm => ?_) _).2 (hlive ▸ List.mem_append_right _ List.mem_cons_self)
    rw [zipIdx_ids] at hm
    exact hearlier _ hm _ List.mem_cons_self rfl
  have hbefore : ((s.examined o earlier 0 s.sched.takeLow).live.map (·.id)).Nodup := examineAll_ids_nodup _ hids
  refine ⟨hc, hbefore, ?_⟩
  rw [← examineId_eq hbefore hc, hlive]
  simp only [State.examined, List.zipIdx_append, List.zipIdx_cons, examineAll_append, examineAll_cons, Nat.zero_add]
  rfl

/-- The cues examined after a cue leave what its examination made of it. -/
theorem mem_examined_later (hids : (s.sched.live.map (·.id)).Nodup) (hlive : s.sched.live = earlier ++ c :: later) {d : Cue}
    (hd : d.id = c.id) (k : Nat) (sch : Schedule) : d ∈ (s.examined o later k sch).live ↔ d ∈ sch.live := by
  rw [hlive, List.map_append, List.map_cons, List.nodup_append, List.nodup_cons] at hids
  obtain ⟨-, ⟨hlater, -⟩, -⟩ := hids
  refine examineAll_mem_iff (fun hm => hlater ?_) _
  rwa [zipIdx_ids, hd] at hm

end

/-! ### Duties met with what is owed (R117 to R119) -/

theorem offer_aborted {n : PortNotice} (h : n.abortSent = true) (duty : CueNotice) : n.offer duty = n :=
  if_pos h

theorem offer_owed {n : PortNotice} (h : n.abortSent = false) (duty : CueNotice) :
    n.offer duty = { n with owed := mergeDuty duty n.owed n.askedSent } :=
  if_neg (by rw [h]; exact Bool.false_ne_true)

/-- A duty changes the owed notice alone. -/
theorem offer_frame (n : PortNotice) (duty : CueNotice) : n.offer duty = { n with owed := (n.offer duty).owed } := by
  unfold PortNotice.offer
  split <;> rfl

theorem mergeDuty_commit_owed {owed : Option CueNotice} (h : ∀ r, owed ≠ some (.abort r)) (asked : Bool) :
    mergeDuty .commit owed asked = some .commit := by
  rcases owed with _ | (_ | _ | _ | r)
  · rfl
  · rfl
  · rfl
  · rfl
  · exact absurd rfl (h r)

theorem mergeDuty_defer_owed {owed : Option CueNotice} (h : ∀ r, owed ≠ some (.abort r)) (asked : Bool) :
    mergeDuty .defer owed asked = if owed = some .prepare then some .prepare else some .defer := by
  rcases owed with _ | (_ | _ | _ | r)
  · rfl
  · rfl
  · rfl
  · rfl
  · exact absurd rfl (h r)

theorem mergeDuty_abort_owed (r : AbortReason) (owed : Option CueNotice) (asked : Bool) :
    mergeDuty (.abort r) owed asked = if owed = some .prepare ∧ asked = false then none else some (.abort r) := by
  rcases owed with _ | (_ | _ | _ | r')
  · rfl
  · cases asked <;> rfl
  · rfl
  · rfl
  · rfl

/-- The notices of an armed cue (R99, R102): a COMMIT to the armed ports, an ABORT to the excluded ones. -/
theorem arm_notices (c : Cue) (mask : PortMask) (p : Port) (h : inMask mask p = true → c.hasPort p = true) :
    (c.arm mask).notices[p] = if c.hasPort p then
      c.notices[p].offer (if inMask mask p then .commit else .abort .excluded) else c.notices[p] := by
  have harm : ({ c with state := .armed, armed := mask }.offerTo .commit (inMask mask)).notices[p]
      = if inMask mask p then c.notices[p].offer .commit else c.notices[p] := offerTo_notices _ _ _ _
  rw [Cue.arm, offerTo_notices, harm]
  cases hm : inMask mask p with
  | true => simp [h hm]
  | false => simp

theorem deferred_notices (c : Cue) (p : Port) :
    c.deferred.notices[p] = if c.hasPort p then c.notices[p].offer .defer else c.notices[p] :=
  offerTo_notices _ _ _ _

/-- A retired cue that has armed no port leaves no COMMIT unsent (R67, R108). -/
theorem unsentMask_of_none_armed {c : Cue} (h : c.armed = 0) : c.unsentMask = 0 := by
  have hnone : (fun p : Port => inMask c.armed p && decide (c.notices[p].owed = some .commit)) = fun _ => false := by
    funext p
    rw [h]
    simp [inMask]
  rw [Cue.unsentMask, hnone]
  rfl

/-! ### The decisions at a deadline (R99 to R103) -/

section
variable {w : Frame} {status : Vector StepStatus 6} {c : Cue} {s : Schedule}

theorem deadline_all_good (h : ∀ x ∈ c.participants, x.good status = true) :
    s.deadline w status c = s.putCue w (c.arm c.portMask) :=
  if_pos (List.all_eq_true.2 h)

theorem deadline_failed (h : ¬ ∀ x ∈ c.participants, x.good status = true) :
    s.deadline w status c = match c.policy with
      | .defer => if c.deferralsUsed < c.maxDeferrals then s.deferCue w c else s.failCue w c
      | .partialTake =>
        if c.participants.any (·.good status) then s.putCue w (c.arm (maskOf (c.goodPort status))) else s.failCue w c
      | .cancel => s.failCue w c :=
  if_neg fun ha => h (List.all_eq_true.1 ha)

theorem deadline_partial (h : ¬ ∀ x ∈ c.participants, x.good status = true) (hp : c.policy = .partialTake)
    (hg : ∃ x ∈ c.participants, x.good status = true) :
    s.deadline w status c = s.putCue w (c.arm (maskOf (c.goodPort status))) := by
  rw [deadline_failed h, hp]
  exact if_pos (List.any_eq_true.2 hg)

theorem deadline_defers (h : ¬ ∀ x ∈ c.participants, x.good status = true) (hp : c.policy = .defer)
    (hb : c.deferralsUsed < c.maxDeferrals) : s.deadline w status c = s.deferCue w c := by
  rw [deadline_failed h, hp]
  exact if_pos hb

theorem deadline_fails (h : ¬ ∀ x ∈ c.participants, x.good status = true)
    (hp : c.policy = .cancel ∨ c.policy = .defer ∧ ¬ c.deferralsUsed < c.maxDeferrals
      ∨ c.policy = .partialTake ∧ ∀ x ∈ c.participants, ¬ x.good status = true) :
    s.deadline w status c = s.failCue w c := by
  rw [deadline_failed h]
  rcases hp with hp | ⟨hp, hb⟩ | ⟨hp, hg⟩ <;> rw [hp]
  · exact if_neg hb
  · refine if_neg fun ha => ?_
    obtain ⟨x, hx, hxg⟩ := List.any_eq_true.1 ha
    exact hg x hx hxg

/-- The ports of the good participants (R102). -/
theorem goodPort_iff (p : Port) : c.goodPort status p = true ↔ ∃ x ∈ c.participants, x.port = p ∧ x.good status = true := by
  simp [Cue.goodPort]

theorem goodPort_hasPort {p : Port} (h : inMask (maskOf (c.goodPort status)) p = true) : c.hasPort p = true := by
  rw [inMask_maskOf, goodPort_iff] at h
  obtain ⟨x, hx, hxp, -⟩ := h
  exact (hasPort_iff c p).2 ⟨x, hx, hxp⟩

/-- The retirement of a cue that is not taken and has armed no port (R101, R103, R108): no repetition, and an entry with empty
masks. -/
theorem retire_untaken {outcome : CueOutcome} {duty : Port → Option AbortReason} (hout : outcome.isTake ≠ true)
    (ha : c.armed = 0) : (s.retire w c outcome duty).live = s.live.filter (fun e => e.id != c.id)
      ∧ (s.retire w c outcome duty).outcomes
        = (s.outcomes ++ [(⟨c.id, c.fire, outcome, c.deferralsUsed, 0, 0, .none⟩ : OutcomeEntry)]).drop
          (s.outcomes.length + 1 - 16) := by
  have hnone : c.continuation (removeCue c.id s.live) outcome.isTake = .none := continuation_none (.inl hout)
  refine ⟨retire_live_of_no_repetition (by simp [hnone]), ?_⟩
  show appendCapped s.outcomes (c.outcomeEntry outcome _) = _
  rw [hnone, Cue.outcomeEntry, unsentMask_of_none_armed ha, ha]
  rfl

/-- The ABORT duty to a participant is left as a retired ABORT unless an ABORT has been sent or the PREPARE was never sent
(R119). -/
theorem settle_participant (reason : AbortReason) {p : Port} (hp : c.hasPort p = true) :
    c.notices[p].settle (c.abortAll reason p)
      = if c.notices[p].abortSent = true ∨ c.notices[p].owed = some .prepare ∧ c.notices[p].askedSent = false then none
        else some reason := by
  rw [Cue.abortAll, if_pos hp, PortNotice.settle]
  by_cases hsent : c.notices[p].abortSent = true
  · rw [if_pos hsent, if_pos (.inl hsent)]
  · simp only [hsent, false_or, Bool.false_eq_true, if_false]

/-- Where nothing is owed to a port that is no participant, nothing is left (R119). -/
theorem settle_outsider (reason : AbortReason) {p : Port} (hp : c.hasPort p = false) (ho : c.notices[p].owed = none) :
    c.notices[p].settle (c.abortAll reason p) = none := by
  rw [Cue.abortAll, if_neg (by rw [hp]; exact Bool.false_ne_true), PortNotice.settle, ho]

end

/-! ### The statements -/

/-- The good participants of a statement are those of the model (R99). -/
theorem good_iff (s : State) (o : StrobeOrder) (k : Nat) (x : Participant) :
    x.good (s.statuses o k) = true
      ↔ x.readiness = .ready ∧ (s.statusAt o k x.port = .inStep ∨ s.statusAt o k x.port = .unused) := by
  simp only [Participant.good, statuses_get, Bool.and_eq_true, Bool.or_eq_true, decide_eq_true_eq]

theorem examine_asks {w : Frame} {status : Vector StepStatus 6} {c : Cue} (hs : c.state = .waiting) (ha : c.ahead w = c.lead)
    (s : Schedule) : s.examine w status c = s.putCue w c.ask := by
  simp only [Schedule.examine, hs, ha, if_true]

theorem examine_deadline {w : Frame} {status : Vector StepStatus 6} {c : Cue} (hs : c.state = .asking)
    (ha : c.ahead w = c.margin) (s : Schedule) : s.examine w status c = s.deadline w status c := by
  simp only [Schedule.examine, hs, ha, if_true]

/-- A cue whose fire minus W calls for no transition is left as it is (R95). -/
theorem examine_still {w : Frame} {status : Vector StepStatus 6} {c : Cue}
    (h : match c.state with
      | .waiting => c.ahead w ≠ c.lead
      | .asking => c.ahead w ≠ c.margin
      | .armed => c.ahead w ≠ 0
      | .taken => c.ahead w ≠ -(c.li : Int)) (s : Schedule) : s.examine w status c = s := by
  unfold Schedule.examine
  cases hs : c.state <;> simp only [hs] at h ⊢ <;> exact if_neg h

/-- Settles O23: the examination of the cue between those before and after it. -/
theorem strobeMovesCues : Obligations.StrobeMovesCues := by
  unfold Obligations.StrobeMovesCues
  intro i s o c earlier later ho hn hids hlive
  obtain ⟨t, ht, hsched⟩ := exec_strobe_sched ho hn
  obtain ⟨hc, -, hsplit⟩ := examined_split (o := o) hids hlive
  rw [hsplit] at hsched
  have hmem : ∀ d : Cue, d.id = c.id →
      d ∈ ((s.examined o earlier 0 s.sched.takeLow).examine (s.wtb.w + 1) (s.statuses o earlier.length) c).live →
      d ∈ t.sched.live := fun d hd => by
    rw [hsched]
    exact (mem_examined_later hids hlive hd _ _).2
  refine ⟨t, ht, fun hs hin ha => ?_, fun hs ha hgood => ?_, fun hstill => ?_⟩
  · rw [examine_asks hs ha] at hmem
    exact ⟨c.ask, hmem _ rfl ((mem_putCue _ _ _ _).2 (.inl rfl)), rfl, ask_notices (by
      rw [Cue.InState, hs] at hin
      exact hin.2.2)⟩
  · rw [examine_deadline hs ha, deadline_all_good fun x hx => (good_iff _ _ _ _).2 (hgood x hx)] at hmem
    have hnotices := fun p => arm_notices c c.portMask p fun h => by rwa [inMask_portMask] at h
    refine ⟨c.arm c.portMask, hmem _ rfl ((mem_putCue _ _ _ _).2 (.inl rfl)), rfl, inMask_portMask c, fun p hp => ?_,
      fun p hp hsent howed => ?_⟩
    · rw [hnotices, if_neg (by rw [hp]; exact Bool.false_ne_true)]
    · rw [hnotices, if_pos hp, inMask_portMask, if_pos hp, offer_owed hsent, mergeDuty_commit_owed howed]
  · rw [examine_still hstill] at hmem
    exact hmem c rfl hc

/-- Settles O24: the decision by the cue's policy, on the table that the examination finds. -/
theorem failedDeadline : Obligations.FailedDeadline := by
  unfold Obligations.FailedDeadline
  intro i s o c earlier later good ho hn hids hlive hs ha harmed hgood hfailed
  obtain ⟨t, ht, hsched⟩ := exec_strobe_sched ho hn
  obtain ⟨hc, hbefore, hsplit⟩ := examined_split (o := o) hids hlive
  rw [hsplit] at hsched
  obtain rfl : good = fun x => x.good (s.statuses o earlier.length) = true :=
    funext fun x => propext ((hgood x).trans (good_iff _ _ _ _).symm)
  refine ⟨t, _, _, ht, rfl, hsched, hc, hbefore, ?_⟩
  rw [examine_deadline hs ha]
  generalize s.examined o earlier 0 s.sched.takeLow = before at hc
  generalize s.statuses o earlier.length = status at hfailed
  refine ⟨?_, fun hp hsome => ?_, fun hp hb hfree => ?_, fun outcome reason hdecision => ?_⟩
  · rcases deadline_cases (s.wtb.w + 1) status c before with ⟨_, he⟩ | ⟨_, _, he⟩ | ⟨_, _, he⟩ | he <;> rw [he]
    · rfl
    · unfold Schedule.deferCue
      split <;> rfl
    · rfl
    · rfl
  · rw [deadline_partial hfailed hp hsome]
    have hnotices := fun p => arm_notices c (maskOf (c.goodPort status)) p goodPort_hasPort
    refine ⟨c.arm (maskOf (c.goodPort status)), fun e => mem_putCue _ _ _ _, rfl, fun p => ?_, fun p => ?_, fun p hp => ?_,
      fun p hp hsent howed => ?_, rfl, rfl⟩
    · exact (Bool.eq_iff_iff.1 (inMask_maskOf _ p)).trans (goodPort_iff p)
    · rw [hnotices]
      split
      · exact offer_frame _ _
      · rfl
    · rw [hnotices]
      split
      · next hport => exact offer_aborted (hp.resolve_left (by simp [hport])) _
      · rfl
    · rw [hnotices, if_pos hp, offer_owed hsent]
      show mergeDuty (if inMask (maskOf (c.goodPort status)) p then .commit else .abort .excluded) _ _
        = if inMask (maskOf (c.goodPort status)) p then _ else _
      split
      · exact mergeDuty_commit_owed howed _
      · exact mergeDuty_abort_owed _ _ _
  · rw [deadline_defers hfailed hp hb, Schedule.deferCue, if_neg fun hclash => by
      obtain ⟨e, he, hid, hfire, x, hx, hport⟩ := clashes_removeCue.1 hclash
      rw [hfree e he hid hfire x hx] at hport
      cases hport]
    refine ⟨c.deferred, fun e => mem_putCue _ _ _ _, ?_, fun p => ?_, fun p hp => ?_, fun p hp hsent howed => ?_, rfl, rfl⟩
    · have hready : ∀ r : Readiness, r.afterDeferral = if r = .ready then .ready else .asked := by
        intro r
        cases r <;> rfl
      simp only [Cue.deferred, Cue.offerTo, Cue.mapReadiness, Cue.deferredFire, hready]
    · rw [deferred_notices]
      split
      · exact offer_frame _ _
      · rfl
    · rw [deferred_notices]
      split
      · next hport => exact offer_aborted (hp.resolve_left (by simp [hport])) _
      · rfl
    · rw [deferred_notices, if_pos hp, offer_owed hsent]
      exact mergeDuty_defer_owed howed _
  · obtain ⟨he, hout⟩ : before.deadline (s.wtb.w + 1) status c = before.retire (s.wtb.w + 1) c outcome (c.abortAll reason)
        ∧ outcome.isTake ≠ true := by
      rcases hdecision with ⟨hp, hb, hclash, rfl, rfl⟩ | ⟨hp, rfl, rfl⟩
      · refine ⟨?_, Bool.false_ne_true⟩
        rw [deadline_defers hfailed hp hb]
        exact if_pos (clashes_removeCue.2 hclash)
      · exact ⟨deadline_fails hfailed hp, Bool.false_ne_true⟩
    rw [he]
    obtain ⟨hl, houtcomes⟩ := retire_untaken (w := s.wtb.w + 1) (s := before) (duty := c.abortAll reason) hout harmed
    refine ⟨hl, houtcomes, fun p => ⟨fun hp hsent howed => ?_, fun hp hno => ?_, fun hp hno => ?_⟩⟩ <;> rw [retire_aborts]
    · rw [settle_participant reason hp, if_neg (not_or.2 ⟨by rw [hsent]; exact Bool.false_ne_true, howed⟩)]
      rfl
    · rw [settle_participant reason hp, if_pos hno]
    · rw [settle_outsider reason hp hno]

end Sys2Proof.Machine
end

section
/-! PROOFS. Takes (R105 to R108): which take lines a strobe asserts, the outcome of a take, and why no other command but a reset of
the part changes a take line. -/

namespace Sys2Proof.Machine

/-! ### Take lines at a strobe (R105, R106) -/

/-- The cue is taken at W = `w`, with the port armed (R106). -/
def Cue.Takes (w : Frame) (p : Port) (c : Cue) : Prop :=
  c.state = .armed ∧ c.ahead w = 0 ∧ inMask c.armed p = true

theorem deadline_take (w : Frame) (status : Vector StepStatus 6) (c : Cue) (s : Schedule) :
    (s.deadline w status c).take = s.take := by
  rcases deadline_cases w status c s with ⟨_, he⟩ | ⟨_, _, he⟩ | ⟨_, _, he⟩ | he <;> rw [he]
  · rfl
  · unfold Schedule.deferCue
    split <;> rfl
  · rfl
  · rfl

theorem takeCue_take (w : Frame) (c : Cue) (s : Schedule) : (s.takeCue w c).take = (s.assertTake c.armed).take := by
  unfold Schedule.takeCue
  split <;> rfl

theorem examine_takes {w : Frame} {status : Vector StepStatus 6} {c : Cue} (hs : c.state = .armed) (ha : c.ahead w = 0)
    (s : Schedule) : s.examine w status c = s.takeCue w c := by
  simp only [Schedule.examine, hs, ha, if_true]

/-- An examination asserts the lines of the armed ports of a cue that it takes, and no others. -/
theorem examine_take (w : Frame) (status : Vector StepStatus 6) (c : Cue) (s : Schedule) (p : Port) :
    (s.examine w status c).take[p] = true ↔ s.take[p] = true ∨ c.Takes w p := by
  by_cases h : c.state = .armed ∧ c.ahead w = 0
  · rw [examine_takes h.1 h.2, takeCue_take]
    show (mapAt (fun q t => t || inMask c.armed q) s.take)[p] = true ↔ _
    rw [mapAt_get, Bool.or_eq_true]
    exact or_congr_right ⟨fun hm => ⟨h.1, h.2, hm⟩, fun ht => ht.2.2⟩
  · have htake : (s.examine w status c).take = s.take := by
      rcases examine_cases w status c s with he | ⟨_, _, he⟩ | ⟨_, _, he⟩ | ⟨hs, ha, _⟩ | ⟨_, _, he⟩
      · rw [he]
      · rw [he]; rfl
      · rw [he]; exact deadline_take w status c s
      · exact absurd ⟨hs, ha⟩ h
      · rw [he]; rfl
    rw [htake]
    exact (or_iff_left fun ht => h ⟨ht.1, ht.2.1⟩).symm

/-- The take lines after the examination of cues of the table, each of which is examined as it was found. -/
theorem examineAll_take {w : Frame} {status : Nat → Vector StepStatus 6} {p : Port} (cues : List (Cue × Nat)) {s : Schedule}
    (hids : (s.live.map (·.id)).Nodup) (hcues : (cues.map (·.1.id)).Nodup) (hlive : ∀ x ∈ cues, x.1 ∈ s.live) :
    (s.examineAll w status cues).take[p] = true ↔ s.take[p] = true ∨ ∃ x ∈ cues, x.1.Takes w p := by
  induction cues generalizing s with
  | nil => simp [Schedule.examineAll]
  | cons x cues ih =>
    rw [List.map_cons, List.nodup_cons] at hcues
    have hsettled := settledAt_examineId w (status x.2) s x.1.id
    have hrest : ∀ y ∈ cues, y.1 ∈ (s.examineId w (status x.2) x.1.id).live := fun y hy =>
      (hsettled.mem_iff fun hid => hcues.1 (hid ▸ List.mem_map_of_mem (f := fun z : Cue × Nat => z.1.id) hy)).2
        (hlive y (List.mem_cons_of_mem _ hy))
    rw [examineAll_cons, ih (hsettled.ids_nodup hids) hcues.2 hrest, examineId_eq hids (hlive x List.mem_cons_self),
      examine_take, or_assoc]
    simp only [List.mem_cons, exists_eq_or_imp]

/-- The lines asserted in the frame that a strobe begins (R105). -/
theorem strobe_take {s : State} (o : StrobeOrder) (hids : (s.sched.live.map (·.id)).Nodup) (p : Port) :
    (s.examined o s.sched.live 0 s.sched.takeLow).take[p] = true ↔ ∃ c ∈ s.sched.live, c.Takes (s.wtb.w + 1) p := by
  have hlow : ¬ s.sched.takeLow.take[p] = true := by simp [Schedule.takeLow]
  have hall : (s.examined o s.sched.live 0 s.sched.takeLow).take[p] = true
      ↔ s.sched.takeLow.take[p] = true ∨ ∃ x ∈ s.sched.live.zipIdx 0, x.1.Takes (s.wtb.w + 1) p :=
    examineAll_take _ hids (by rwa [zipIdx_ids]) fun _ => List.fst_mem_of_mem_zipIdx
  rw [hall, or_iff_right hlow]
  constructor
  · rintro ⟨x, hx, ht⟩
    exact ⟨x.1, List.fst_mem_of_mem_zipIdx hx, ht⟩
  · rintro ⟨c, hc, ht⟩
    rw [← List.zipIdx_map_fst 0 s.sched.live] at hc
    obtain ⟨x, hx, rfl⟩ := List.mem_map.1 hc
    exact ⟨x, hx, ht⟩

/-! ### The outcome of a take (R67, R106 to R108) -/

/-- The outcome of a take by the ports of its mask, port by port (R67). -/
theorem takeOutcome_eq {c : Cue} {outcome : CueOutcome}
    (h : if ∀ p : Port, inMask c.armed p = c.hasPort p then outcome = .taken else outcome = .takenPartial) :
    c.takeOutcome = outcome := by
  have hmask : c.armed = c.portMask ↔ ∀ p : Port, inMask c.armed p = c.hasPort p := by
    constructor
    · intro he p
      rw [he, inMask_portMask]
    · intro he
      refine BitVec.eq_of_getLsbD_eq fun k hk => ?_
      exact (he ⟨k, hk⟩).trans (inMask_portMask c ⟨k, hk⟩).symm
  unfold Cue.takeOutcome
  split at h
  · next hall => rw [if_pos (hmask.2 hall), h]
  · next hnot => rw [if_neg (mt hmask.1 hnot), h]

/-- The examination that ends a cue by its take, or by the end of its fade-in, is a retirement without an ABORT duty (R107,
R108). -/
theorem examine_retires {w : Frame} {status : Vector StepStatus 6} {c : Cue}
    (h : c.state = .armed ∧ c.ahead w = 0 ∧ c.transition = .cut ∨ c.state = .taken ∧ c.ahead w = -(c.li : Int))
    (s : Schedule) : s.examine w status c
      = Schedule.retire w c c.takeOutcome (fun _ => none) { s with take := (s.examine w status c).take } := by
  rcases h with ⟨hs, ha, ht⟩ | ⟨hs, ha⟩
  · rw [examine_takes hs ha, Schedule.takeCue, ht]
    rfl
  · have he : s.examine w status c = s.retire w c c.takeOutcome fun _ => none := by
      simp only [Schedule.examine, hs, ha, if_true]
    rw [he]
    rfl

/-- A take of a DIM cue is no retirement (R106). -/
theorem examine_dims {w : Frame} {status : Vector StepStatus 6} {c : Cue} (hs : c.state = .armed) (ha : c.ahead w = 0)
    (ht : c.transition = .dim) (s : Schedule) :
    s.examine w status c = (s.assertTake c.armed).putCue w { c with state := .taken } := by
  rw [examine_takes hs ha, Schedule.takeCue, ht]

/-- A retirement without an ABORT duty leaves no retired ABORT where none was owed (R119). -/
theorem retire_keeps_aborts {w : Frame} {c : Cue} {outcome : CueOutcome} {s : Schedule} {p : Port}
    (h : ∀ r, c.notices[p].owed ≠ some (.abort r)) :
    (s.retire w c outcome fun _ => none).aborts[p] = s.aborts[p] := by
  have hnone : c.notices[p].settle none = none := by
    unfold PortNotice.settle
    rcases hn : c.notices[p].owed with _ | (_ | _ | _ | r)
    · rfl
    · rfl
    · rfl
    · rfl
    · exact absurd hn (h r)
  rw [retire_aborts, hnone]

/-! ### Take lines between strobes -/

/-- The take lines as the part stands. -/
def State.takeLines (s : State) : Vector Bool 6 := s.sched.take

@[simp] theorem finishEdit_takeLines (p : Port) (outcome : EditOutcome) (s : State) :
    (s.finishEdit p outcome).takeLines = s.takeLines := by
  rw [finishEdit_frame]; rfl

@[simp] theorem completeSave_takeLines (outcome : EditOutcome) (s : State) :
    (s.completeSave outcome).takeLines = s.takeLines := by
  unfold State.completeSave
  split
  · rfl
  · exact finishEdit_takeLines _ _ _

theorem complete_takeLines {kind : RequestKind} {outcome : Port → Message → State → EditOutcome}
    {apply : Port → Message → State → State} (happly : ∀ p m u, (apply p m u).takeLines = u.takeLines) (s : State) :
    (s.complete kind outcome apply).takeLines = s.takeLines := by
  rcases complete_cases kind outcome apply s with he | ⟨p, slot, _, _, _, ⟨_, he⟩ | ⟨_, he⟩⟩ <;> rw [he]
  · rw [finishEdit_takeLines, happly]
  · exact finishEdit_takeLines _ _ _

@[simp] theorem placeEdit_takeLines (p : Port) (m : Message) (s : State) : (s.placeEdit p m).takeLines = s.takeLines := by
  unfold State.placeEdit
  split
  · rw [arbitrate_frame]; rfl
  · rfl

@[simp] theorem answer_takeLines (p : Port) (id : Byte) (entry : Cue → Readiness) (s : State) :
    (s.answer p id entry).takeLines = s.takeLines := by
  rcases answer_cases p id entry s with ⟨_, he⟩ | ⟨_, he⟩ | he <;> rw [he] <;> rfl

@[simp] theorem dispatch_takeLines (p : Port) (m : Message) (s : State) : (s.dispatch p m).takeLines = s.takeLines := by
  unfold State.dispatch
  split
  · rfl
  · exact answer_takeLines _ _ _ _
  · exact answer_takeLines _ _ _ _
  · rfl
  all_goals exact placeEdit_takeLines _ _ _

@[simp] theorem receive_takeLines (p : Port) (ch : LineChar) (s : State) : (s.receive p ch).takeLines = s.takeLines := by
  unfold State.receive
  dsimp only
  split
  · rfl
  · next m _ =>
    rcases deliver_cases p m { s with links := s.links.set p (s.links[p].receive ch).1 } with ⟨_, he⟩ | ⟨_, he⟩ <;> rw [he]
    · rfl
    · exact dispatch_takeLines _ _ _

@[simp] theorem send_takeLines (p : Port) (x : Choice) (s : State) : (s.send p x).takeLines = s.takeLines := by
  cases x with
  | editResult slot outcome =>
    rw [State.send, arbitrate_frame, refill_frame]
    rfl
  | report subject index =>
    rw [State.send, reportEffects_frame]
    rfl
  | commit | retiredAbort | liveAbort | defer | prepare | step => rfl

@[simp] theorem startOn_takeLines (p : Port) (s : State) : (s.startOn p).takeLines = s.takeLines := by
  rcases startOn_cases p s with ⟨_, he⟩ | ⟨x, _, he⟩ <;> rw [he]
  exact send_takeLines p x s

@[simp] theorem atMoment_takeLines (m : Moment) (s : State) : (s.atMoment m).takeLines = s.takeLines := by
  cases m with
  | together => rfl
  | later =>
    exact startDue_induction (P := fun u => u.takeLines = s.takeLines) (fun p u hu => (startOn_takeLines p u).trans hu) rfl

theorem cuePutApply_takeLines (p : Port) (m : Message) (s : State) : (cuePutApply p m s).takeLines = s.takeLines := by
  unfold cuePutApply; split <;> rfl

theorem cueDropApply_takeLines (p : Port) (m : Message) (s : State) : (cueDropApply p m s).takeLines = s.takeLines := by
  unfold cueDropApply; split <;> rfl

theorem zoneSetApply_takeLines (p : Port) (m : Message) (s : State) : (zoneSetApply p m s).takeLines = s.takeLines := by
  unfold zoneSetApply; split <;> rfl

theorem wallSetApply_takeLines (p : Port) (m : Message) (s : State) : (wallSetApply p m s).takeLines = s.takeLines := by
  unfold wallSetApply State.acceptWall
  split
  · rfl
  · split <;> rfl

theorem phaseSetApply_takeLines (p : Port) (m : Message) (s : State) : (phaseSetApply p m s).takeLines = s.takeLines := by
  unfold phaseSetApply; split <;> rfl

theorem permitApply_takeLines (p : Port) (m : Message) (s : State) : (permitApply p m s).takeLines = s.takeLines := by
  unfold permitApply; split <;> rfl

/-- An event whose effect keeps the take lines keeps them, whatever starts come before it. -/
theorem event_takeLines {m : Moment} {f : State → State} {s t : State} (h : s.event m f = .next t)
    (hf : (f (s.atMoment m)).takeLines = (s.atMoment m).takeLines) : t.takeLines = s.takeLines := by
  cases h
  rw [hf, atMoment_takeLines]

/-- A command that ends no frame and does not reset the part keeps the take lines (R105). -/
theorem exec_takeLines {i : Instr} {s t : State} (hn : strobeOf i s = none) (hr : ∀ m, i ≠ .powerOnReset m ∧ i ≠ .pinReset m)
    (h : exec i s = .next t) : t.takeLines = s.takeLines := by
  cases hp : sendPort i with
  | some p =>
    rcases exec_send_cases hp s with he | ⟨x, _, he⟩ <;> rw [he] at h <;> cases h
    · rfl
    · exact send_takeLines p x s
  | none =>
  rw [exec.eq_def] at h
  cases i with
  | prepare | defer | commit | abort | editResult | report | step => cases hp
  | powerOnReset m => exact absurd rfl (hr m).1
  | pinReset m => exact absurd rfl (hr m).2
  | referenceEdge ticks o =>
    rw [← strobeOf_atMoment _ o.moment] at hn
    exact event_takeLines h (by dsimp only; rw [referenceEdge_stays hn]; rfl)
  | freeRunningStrobe o =>
    rw [← strobeOf_atMoment _ o.moment] at hn
    refine event_takeLines h ?_
    split
    · next hs =>
      cases hst : (s.atMoment o.moment).wtb.state <;> simp [strobeOf, hst, TimebaseState.runsFree] at hn hs
    · rfl
  | lateLimitStrobe o =>
    rw [← strobeOf_atMoment _ o.moment] at hn
    exact event_takeLines h (by rw [if_neg fun hs => by simp [strobeOf, hs] at hn])
  | relockFrameLimit o =>
    rw [← strobeOf_atMoment _ o.moment] at hn
    exact event_takeLines h (by rw [if_neg fun hs => by simp [strobeOf, hs] at hn])
  | loadStart | loadEnd => exact event_takeLines h (by split <;> rfl)
  | intervalTooLong | framePulseEnd | messageEnd | stopBitEnd | returnToMark | erase | program | conversionEnd | wrap =>
    exact event_takeLines h rfl
  | receivedCharacter p ch m => exact event_takeLines h (receive_takeLines _ _ _)
  | editArrival | ready | unready | query => exact event_takeLines h (by split <;> simp)
  | lineBreak p m => exact event_takeLines h (by split <;> rfl)
  | ctsAsserted p level m => exact event_takeLines h (startOn_takeLines _ _)
  | cuePut m => exact event_takeLines h (complete_takeLines cuePutApply_takeLines _)
  | cueDrop m => exact event_takeLines h (complete_takeLines cueDropApply_takeLines _)
  | zoneSet m => exact event_takeLines h (complete_takeLines zoneSetApply_takeLines _)
  | wallSet m => exact event_takeLines h (complete_takeLines wallSetApply_takeLines _)
  | phaseSet m => exact event_takeLines h (complete_takeLines phaseSetApply_takeLines _)
  | permit m => exact event_takeLines h (complete_takeLines permitApply_takeLines _)
  | lock m => exact event_takeLines h (complete_takeLines (apply := lockApply) (fun _ _ _ => rfl) _)
  | save m =>
    refine event_takeLines h ?_
    split
    · exact completeSave_takeLines _ _
    · exact complete_takeLines (fun _ _ _ => rfl) _
  | check found m =>
    refine event_takeLines h ?_
    repeat' split
    · rfl
    · exact completeSave_takeLines _ _
    · rfl
  | echoEdge p ticks m => exact event_takeLines h (by dsimp only; split <;> rfl)

/-- Every command answers a next state. -/
theorem exec_completes (i : Instr) (s : State) : ∃ t, exec i s = .next t := by
  cases hp : sendPort i with
  | some p =>
    rcases exec_send_cases hp s with he | ⟨x, _, he⟩
    · exact ⟨_, he⟩
    · exact ⟨_, he⟩
  | none =>
    cases i with
    | prepare | defer | commit | abort | editResult | report | step => cases hp
    | _ => exact ⟨_, rfl⟩

/-- Settles O25: the lines over the whole table, each take on the table that its examination finds, and the frame between
strobes. -/
theorem takeLinesFollowTakes : Obligations.TakeLinesFollowTakes := by
  unfold Obligations.TakeLinesFollowTakes
  intro i s hids
  refine ⟨fun o ho hn => ?_, fun hn hr => ?_⟩
  · obtain ⟨t, ht, hsched⟩ := exec_strobe_sched ho hn
    refine ⟨t, ht, fun p => by rw [hsched]; exact strobe_take o hids p, fun c earlier later hlive => ?_⟩
    obtain ⟨hc, -, hsplit⟩ := examined_split (o := o) hids hlive
    rw [hsplit] at hsched
    refine ⟨_, _, rfl, hsched, hc, fun hs ha hdim => ?_, fun outcome hends houtcome => ?_⟩
    · rw [hsched, mem_examined_later hids hlive (by rfl), examine_dims hs ha hdim]
      exact ⟨(mem_putCue _ _ _ _).2 (.inl rfl), rfl, rfl⟩
    · have hretire := examine_retires (status := s.statuses o earlier.length) hends (s.examined o earlier 0 s.sched.takeLow)
      rw [takeOutcome_eq houtcome] at hretire
      obtain ⟨e, houtcomes, -, hid, hfire, hout, hdef, harmed, hunsent, -, hlast, hnone, -⟩ :=
        retirementAndRepetition (s.wtb.w + 1) c outcome (fun _ => none) { s.examined o earlier 0 s.sched.takeLow with
          take := ((s.examined o earlier 0 s.sched.takeLow).examine (s.wtb.w + 1) (s.statuses o earlier.length) c).take }
      rw [← hretire] at houtcomes hlast
      refine ⟨hretire, fun hrep d hd hdid => ?_, ⟨e, houtcomes, hid, hfire, hout, hdef, harmed, fun hrep => hnone (.inr hrep),
        hunsent⟩, fun p hp => ?_⟩
      · rw [hsched, mem_examined_later hids hlive hdid, hlast (by rw [hnone (.inr hrep)]; simp)] at hd
        simp [hdid] at hd
      · rw [hretire]
        exact retire_keeps_aborts hp
  · obtain ⟨t, ht⟩ := exec_completes i s
    exact ⟨t, ht, exec_takeLines hn hr ht⟩

end Sys2Proof.Machine
end

section
/-! PROOFS. The sendings of the cue notices (R117, R120, R124 to R126): the earliest cue that owes a notice of the first group, and
what its sending makes of the table; the oldest retired ABORT. -/

namespace Sys2Proof.Machine

/-! ### The earliest cue that owes a notice (R125) -/

theorem earliestOwing_split {p : Port} {notice : CueNotice} {c : Cue} {earlier : List Cue} (ho : c.notices[p].owed = some notice)
    (hearlier : ∀ d ∈ earlier, d.notices[p].owed ≠ some notice) (later : List Cue) :
    earliestOwing p notice (earlier ++ c :: later) = some c :=
  List.find?_eq_some_iff_append.2 ⟨decide_eq_true ho, earlier, later, rfl, fun d hd => by simpa using hearlier d hd⟩

theorem earliestAbort_split {p : Port} {r : AbortReason} {c : Cue} {earlier : List Cue}
    (ho : c.notices[p].owed = some (.abort r)) (hearlier : ∀ d ∈ earlier, ∀ r', d.notices[p].owed ≠ some (.abort r'))
    (later : List Cue) : earliestAbort p (earlier ++ c :: later) = some (.liveAbort c r) := by
  refine List.findSome?_eq_some_iff.2 ⟨earlier, c, later, rfl, by rw [owedAbort_eq_some.2 ho]; rfl, fun d hd => ?_⟩
  have hnone : d.owedAbort p = none :=
    Option.eq_none_iff_forall_ne_some.2 fun r' hr => hearlier d hd r' (owedAbort_eq_some.1 hr)
  rw [hnone]
  rfl

/-! ### The groups above (R124) -/

theorem not_owes_notice {p : Port} {s : State} {notice : CueNotice} (h : ∀ d ∈ s.sched.live, d.notices[p].owed ≠ some notice) :
    some notice ∉ (s.duties p).cues := fun hmem => by
  obtain ⟨d, hd, ho⟩ := mem_duties_cues.1 hmem
  exact h d hd ho

theorem not_owes_abort {p : Port} {s : State} (haborts : s.sched.aborts[p] = [])
    (h : ∀ d ∈ s.sched.live, ∀ r, d.notices[p].owed ≠ some (.abort r)) : ¬ (s.duties p).Owes 2 := by
  rintro (ha | ⟨r, hr⟩)
  · exact ha haborts
  · exact not_owes_notice (fun d hd => h d hd r) hr

/-! ### What a sending makes of the sent-history (R117) -/

theorem sent_commit {n : PortNotice} (h : n.owed = some .commit) : n.sent = { n with owed := none } := by
  simp only [PortNotice.sent, h]

theorem sent_asked {n : PortNotice} (h : n.owed = some .prepare ∨ n.owed = some .defer) :
    n.sent = { n with owed := none, askedSent := true } := by
  rcases h with h | h <;> simp only [PortNotice.sent, h]

theorem sent_abort {n : PortNotice} {r : AbortReason} (h : n.owed = some (.abort r)) :
    n.sent = { n with owed := none, abortSent := true } := by
  simp only [PortNotice.sent, h]

/-! ### What a sending makes of the table -/

/-- In a table of different ids a record changed where it stands is changed alone. -/
theorem updateCue_split {s : Schedule} {c : Cue} {earlier later : List Cue} (hlive : s.live = earlier ++ c :: later)
    (hids : (s.live.map (·.id)).Nodup) (f : Cue → Cue) :
    s.updateCue c.id f = { s with live := earlier ++ f c :: later } := by
  rw [hlive, List.map_append, List.map_cons, List.nodup_middle, List.nodup_cons, ← List.map_append] at hids
  have hother : ∀ l : List Cue, (∀ d ∈ l, d ∈ earlier ++ later) → (l.map fun d => if d.id == c.id then f d else d) = l :=
    fun l hl => (List.map_congr_left fun d hd => if_neg fun hid =>
      hids.1 (List.mem_map.2 ⟨d, hl d hd, beq_iff_eq.1 hid⟩)).trans (List.map_id l)
  rw [Schedule.updateCue, hlive, List.map_append, List.map_cons, if_pos (beq_self_eq_true _),
    hother earlier fun d hd => List.mem_append_left _ hd, hother later fun d hd => List.mem_append_right _ hd]

/-- The sending of a cue notice (R30, R117): its cue where it stands in the table, and the transmitter. -/
theorem transmit_cueNoticeSent {s : State} {p : Port} {c : Cue} {earlier later : List Cue}
    (hlive : s.sched.live = earlier ++ c :: later) (hids : (s.sched.live.map (·.id)).Nodup) {n : PortNotice}
    (hn : c.notices[p].sent = n) (kind : Byte) (chars : List Byte) :
    (s.cueNoticeSent p c.id).transmit p kind chars
      = s.afterNotice p earlier { c with notices := c.notices.set p n } later kind chars := by
  subst hn
  rw [State.cueNoticeSent, updateCue_split hlive hids]
  rfl

/-- The oldest retired ABORT leaves its list as it is sent (R120). -/
theorem send_retiredAbort {s : State} {p : Port} {a : RetiredAbort} {rest : List RetiredAbort} (h : s.sched.aborts[p] = a :: rest) :
    s.send p (.retiredAbort a) = { s with
      sched := { s.sched with aborts := s.sched.aborts.set p rest }
      links := s.links.set p { s.links[p] with tx := .sending (outgoing true 67) (abortChars a.id a.reason) } } := by
  have htail : modifyAt s.sched.aborts p List.tail = s.sched.aborts.set p rest := by rw [modifyAt, h, List.tail_cons]
  rw [State.send, State.retiredAbortSent, htail]
  rfl

/-- Settles O43: each notice is what its group gives, no group above owes one, and the sending changes its cue alone. -/
theorem cueNoticesAreSent : Obligations.CueNoticesAreSent := by
  unfold Obligations.CueNoticesAreSent
  intro s p c earlier later notice htx hcts hlive hids
  have hexec : ∀ {g : Nat} {x : Choice}, s.inGroup p g = some x → (∀ k, 1 ≤ k → k < g → ¬ (s.duties p).Owes k) →
      exec (sendCommand p g) s = .next (s.send p x) := exec_first_group htx hcts
  have hsent : ∀ {n : PortNotice}, c.notices[p].sent = n → ∀ (kind : Byte) (chars : List Byte),
      (s.cueNoticeSent p c.id).transmit p kind chars
        = s.afterNotice p earlier { c with notices := c.notices.set p n } later kind chars :=
    transmit_cueNoticeSent hlive hids
  refine ⟨fun a rest haborts hcommit => ?_, fun ho hearlier => ⟨?_, ?_, fun r => ?_, ?_⟩⟩
  · have hgroup : s.inGroup p 2 = some (.retiredAbort a) := by simp only [State.inGroup, haborts]; rfl
    refine (hexec hgroup fun k hlo hhi => ?_).trans (congrArg _ (send_retiredAbort haborts))
    obtain rfl : k = 1 := by omega
    exact not_owes_notice hcommit
  · rintro rfl
    have hgroup : s.inGroup p 1 = some (.commit c) := by
      rw [State.inGroup, hlive, earliestOwing_split ho hearlier]; rfl
    exact (hexec hgroup fun k hlo hhi => by omega).trans (congrArg _ (hsent (sent_commit ho) 66 _))
  · rintro rfl hcommit haborts habort
    have hgroup : s.inGroup p 3 = some (.defer c) := by
      rw [State.inGroup, hlive, earliestOwing_split ho hearlier]; rfl
    refine (hexec hgroup fun k hlo hhi => ?_).trans (congrArg _ (hsent (sent_asked (.inr ho)) 65 _))
    obtain rfl | rfl : k = 1 ∨ k = 2 := by omega
    · exact not_owes_notice hcommit
    · exact not_owes_abort haborts habort
  · rintro rfl hcommit haborts habort
    have hgroup : s.inGroup p 2 = some (.liveAbort c r) := by
      simp only [State.inGroup, haborts, hlive, earliestAbort_split ho habort]; rfl
    refine (hexec hgroup fun k hlo hhi => ?_).trans (congrArg _ (hsent (sent_abort ho) 67 _))
    obtain rfl : k = 1 := by omega
    exact not_owes_notice hcommit
  · rintro rfl hcommit haborts habort hdefer x hx rfl hports
    have hgroup : s.inGroup x.port 4 = some (.prepare c) := by
      rw [State.inGroup, hlive, earliestOwing_split ho hearlier]; rfl
    rw [← tokenOf_eq hports hx]
    refine (hexec hgroup fun k hlo hhi => ?_).trans (congrArg _ (hsent (sent_asked (.inl ho)) 64 _))
    obtain rfl | rfl | rfl : k = 1 ∨ k = 2 ∨ k = 3 := by omega
    · exact not_owes_notice hcommit
    · exact not_owes_abort haborts habort
    · exact not_owes_notice hdefer

end Sys2Proof.Machine
end

section
/-! PROOFS. What the composers owe (R116 to R120, R122): a duty met with the notice already owed, the ABORT that a retirement
leaves on a port, and the REPORT that a QUERY asks for. -/

namespace Sys2Proof.Machine

/-! ### Duties met with what is owed (R117, R118) -/

/-- A PREPARE takes the place of every notice but an ABORT (R118). -/
theorem mergeDuty_prepare_owed {owed : Option CueNotice} (h : ∀ r, owed ≠ some (.abort r)) (asked : Bool) :
    mergeDuty .prepare owed asked = some .prepare := by
  rcases owed with _ | (_ | _ | _ | r)
  · rfl
  · rfl
  · rfl
  · rfl
  · exact absurd rfl (h r)

/-- Only an ABORT meets an owed ABORT with an effect, its reason (R118). -/
theorem mergeDuty_owed_abort {duty : CueNotice} (h : ∀ r, duty ≠ .abort r) (r' : AbortReason) (asked : Bool) :
    mergeDuty duty (some (.abort r')) asked = some (.abort r') := by
  cases duty with
  | prepare | defer | commit => rfl
  | abort r => exact absurd rfl (h r)

/-- Settles O40: row by row, what each duty makes of the notice it meets. -/
theorem dutyMeetsOwedNotice : Obligations.DutyMeetsOwedNotice := by
  unfold Obligations.DutyMeetsOwedNotice
  intro r r' asked cell hoffer
  have hcell : ∀ {duty owed result}, mergeDuty duty owed asked = result → cell duty owed result := fun h =>
    (hoffer _ _ _).2 (by rw [offer_owed rfl, h])
  have hprepare := fun {owed} h => hcell (mergeDuty_prepare_owed (owed := owed) h asked)
  have hdefer := fun {owed} h => hcell (mergeDuty_defer_owed (owed := owed) h asked)
  have hcommit := fun {owed} h => hcell (mergeDuty_commit_owed (owed := owed) h asked)
  have habort := fun owed => hcell (mergeDuty_abort_owed r owed asked)
  have hkept := fun {duty} h => hcell (mergeDuty_owed_abort (duty := duty) h r' asked)
  refine ⟨hprepare nofun, hprepare nofun, hprepare nofun, hprepare nofun, hkept nofun,
    hdefer nofun, hdefer nofun, hdefer nofun, hdefer nofun, hkept nofun,
    hcommit nofun, hcommit nofun, hcommit nofun, hcommit nofun, hkept nofun,
    habort none, ?_, ?_, habort (some .defer), habort (some .commit), habort (some (.abort r')),
    fun duty owed => offer_aborted rfl duty⟩
  · rintro rfl
    exact habort (some .prepare)
  · rintro rfl
    exact habort (some .prepare)

/-! ### What a retirement leaves (R119, R120) -/

/-- The ABORT duty of a retirement (R117 to R119). -/
theorem settle_duty (r : AbortReason) (n : PortNotice) :
    n.settle (some r)
      = if n.abortSent = true ∨ n.owed = some .prepare ∧ n.askedSent = false then none else some r := by
  rw [PortNotice.settle, ite_or]

/-- Without an ABORT duty an owed ABORT is left (R119). -/
theorem settle_owed_abort {n : PortNotice} {r : AbortReason} (h : n.owed = some (.abort r)) : n.settle none = some r := by
  simp only [PortNotice.settle, h]

/-- Without an ABORT duty every other notice is withdrawn (R119). -/
theorem settle_no_abort {n : PortNotice} (h : ∀ r, n.owed ≠ some (.abort r)) : n.settle none = none := by
  simp only [PortNotice.settle]
  split
  · next r ho => exact absurd ho (h r)
  all_goals rfl

section
variable {c : Cue} {p : Port} {duty : Port → Option AbortReason} (w : Frame) (outcome : CueOutcome) (sch : Schedule)

/-- What is left of a retired cue joins the newest end of the port's list, which keeps the last sixteen (R120). -/
theorem retire_leaves_abort {r : AbortReason} (h : c.notices[p].settle (duty p) = some r) :
    (sch.retire w c outcome duty).aborts[p]
      = (sch.aborts[p] ++ [(⟨c.id, r⟩ : RetiredAbort)]).drop (sch.aborts[p].length + 1 - 16) := by
  rw [retire_aborts, h]
  rfl

theorem retire_leaves_nothing (h : c.notices[p].settle (duty p) = none) :
    (sch.retire w c outcome duty).aborts[p] = sch.aborts[p] := by
  rw [retire_aborts, h]

theorem retire_aborts_length (h : sch.aborts[p].length ≤ 16) : (sch.retire w c outcome duty).aborts[p].length ≤ 16 := by
  rw [retire_aborts]
  split
  · exact appendCapped_length _ _
  · exact h

end

/-- Settles O41: with an ABORT duty and without one, by what the settling of the port leaves. -/
theorem retirementSettlesNotices : Obligations.RetirementSettlesNotices := by
  unfold Obligations.RetirementSettlesNotices
  intro w c outcome duty sch p
  refine ⟨fun r hd hsent howed => ?_, fun r hd hno => ?_, fun r hd ho => ?_, fun hd hno => ?_,
    retire_aborts_length w outcome sch⟩
  · refine retire_leaves_abort w outcome sch ?_
    rw [hd, settle_duty, if_neg (not_or.2 ⟨Bool.eq_false_iff.1 hsent, howed⟩)]
  · refine retire_leaves_nothing w outcome sch ?_
    rw [hd, settle_duty, if_pos hno]
  · exact retire_leaves_abort w outcome sch (by rw [hd, settle_owed_abort ho])
  · exact retire_leaves_nothing w outcome sch (by rw [hd, settle_no_abort hno])

/-! ### QUERY (R25, R122) -/

/-- The character that completes a QUERY (R23, R52). -/
theorem receive_query {l : Link} {subject : Byte} (hr : l.receiver = .ready) (hx : l.rx = .assembling [34, subject] 2)
    (index : Byte) : l.receive (outgoing false index) = ({ l with rx := .hunting }, some [34, subject, index]) :=
  (link_receive_data hr index).trans (dataCharacter_last hx rfl)

/-- QUERY names the arrival of the character that completes a QUERY, which is delivered (R25; log 8). -/
theorem exec_query {s : State} {p : Port} {subject index : Byte} {m : Moment} (hn : s.NoStartBefore m)
    (hr : s.links[p].receiver = .ready) (hx : s.links[p].rx = .assembling [34, subject] 2) :
    exec (.receivedCharacter p (outgoing false index) m) s = exec (.query p index m) s
      ∧ exec (.query p index m) s = .next (State.deliver p [34, subject, index]
          { s with links := s.links.set p { s.links[p] with rx := .hunting } }) := by
  have hrecv := receive_query hr hx index
  have hkind : s.completesKind p index = some .query := by rw [State.completesKind, hrecv]; rfl
  have hquery : exec (.query p index m) s = .next (s.receive p (outgoing false index)) :=
    (event_noStart hn fun u => if u.completesKind p index = some .query then u.receive p (outgoing false index) else u).trans
      (congrArg Host.Outcome.next (if_pos hkind))
  exact ⟨(event_noStart hn _).trans hquery.symm, by rw [hquery, receive_complete hrecv]⟩

/-- A message that completes behind a waiting edit is lost with OVERRUN (R25). -/
theorem deliver_overrun {s : State} {p : Port} {l : Link} (hh : l.holding.isSome = true) (m : Message) :
    State.deliver p m { s with links := s.links.set p l }
      = { s with links := s.links.set p { l with flags := { l.flags with overrun := true } } } := by
  have hl : (s.links.set p l)[p] = l := by rw [set_get, if_pos rfl]
  rw [State.deliver, if_pos (by rw [hl]; exact hh), modifyLink_eq_set, hl]
  exact setLink_set s p _ _

/-- A QUERY makes a REPORT owed with its subject and index, in place of an owed one (R122). -/
theorem dispatch_query (p : Port) (subject index : Byte) (s : State) :
    s.dispatch p [34, subject, index] = { s with
      composers := s.composers.set p { s.composers[p] with report := some (subject, index) } } := rfl

/-- Settles O17, by whether an edit waits in the holding slot. -/
theorem queryArrives : Obligations.QueryArrives := by
  unfold Obligations.QueryArrives
  intro s p subject index m hn hr hx
  obtain ⟨hchar, hquery⟩ := exec_query (index := index) hn hr hx
  refine ⟨hchar, fun hh => ?_, fun hh => ?_⟩
  · rw [hquery, deliver_dispatch (by exact hh), dispatch_query]
  · rw [hquery, deliver_overrun (by exact hh)]

end Sys2Proof.Machine
end

section
/-! PROOFS. The phase watch and the ambient sweep (chapters 8 and 9): an echo edge counted or captured and judged, and what a strobe
makes of both. -/

namespace Sys2Proof.Machine

/-! ### Echo edges (R131, R132) -/

/-- The three capturing modes with their divisors (R131). -/
theorem divisor_of_mode {mode : EchoMode} {divisor : Nat}
    (h : mode = .every ∧ divisor = 1 ∨ mode = .fourth ∧ divisor = 4 ∨ mode = .sixteenth ∧ divisor = 16) :
    mode.capturing = true ∧ divisor = mode.divisor := by
  rcases h with ⟨rfl, rfl⟩ | ⟨rfl, rfl⟩ | ⟨rfl, rfl⟩ <;> exact ⟨rfl, rfl⟩

/-- A port in mode UNUSED ignores edges (R131). -/
theorem edge_unused {e : EchoWatch} (h : e.settings.mode = .unused) (c n : Nat) : e.edge c n = e :=
  if_neg fun hm => (capturing_iff _).1 hm h

/-- An edge that does not complete the divisor is counted (R131). -/
theorem edge_counted {e : EchoWatch} (hm : e.settings.mode.capturing = true)
    (h : e.prescaler + 1 < e.settings.mode.divisor) (c n : Nat) :
    e.edge c n = { e with prescaler := e.prescaler + 1 } := by
  rw [EchoWatch.edge, if_pos hm, if_pos h]

/-- The edge that completes the divisor is captured (R131). -/
theorem edge_captured {e : EchoWatch} (hm : e.settings.mode.capturing = true)
    (h : e.settings.mode.divisor ≤ e.prescaler + 1) (c n : Nat) :
    e.edge c n = { e with prescaler := 0, frames := 0, lastOffset := captureOffset c n }.judge := by
  rw [EchoWatch.edge, if_pos hm, if_neg (Nat.not_lt.2 h)]
  rfl

/-- The offset counts from the strobe before the middle of the frame and back from its end after it, and is stored as at most
32767 (R132). -/
theorem captureOffset_eq (c n : Nat) :
    captureOffset c n = if c < n / 2 then (if 32767 < c then 32767 else (c : Int))
      else if 32767 < (c : Int) - n then 32767 else (c : Int) - n := by
  unfold captureOffset maxOffset
  split <;> split <;> omega

/-! ### The judgement of a capture (R133, R135) -/

theorem isWithin_iff (e : EchoWatch) : e.isWithin = true ↔ e.lastOffset.natAbs ≤ e.settings.tolerance :=
  decide_eq_true_iff

theorem isWithin_of_le {e : EchoWatch} (h : e.lastOffset.natAbs ≤ e.settings.tolerance) : e.isWithin = true :=
  (isWithin_iff e).2 h

theorem isWithin_of_lt {e : EchoWatch} (h : e.settings.tolerance < e.lastOffset.natAbs) : e.isWithin = false :=
  Bool.eq_false_iff.2 fun hw => Nat.not_le.2 h ((isWithin_iff e).1 hw)

/-- A capture within, IN_STEP (R133). -/
theorem judge_inStep_within {e : EchoWatch} (hs : e.status = .inStep) (hw : e.lastOffset.natAbs ≤ e.settings.tolerance) :
    e.judge = { e with beyondRun := 0 } := by
  rw [EchoWatch.judge, hs]
  exact if_pos (isWithin_of_le hw)

/-- A capture beyond, IN_STEP: the third in a row leads to OUT_OF_STEP (R133). -/
theorem judge_inStep_beyond {e : EchoWatch} (hs : e.status = .inStep) (hb : e.settings.tolerance < e.lastOffset.natAbs) :
    e.judge = if e.beyondRun + 1 < 3 then { e with beyondRun := e.beyondRun + 1, withinRun := 0 }
      else { e with status := .outOfStep, withinRun := 0, beyondRun := 0 } := by
  rw [EchoWatch.judge, hs]
  exact if_neg (Bool.eq_false_iff.1 (isWithin_of_lt hb))

/-- A capture beyond, OUT_OF_STEP (R133). -/
theorem judge_outOfStep_beyond {e : EchoWatch} (hs : e.status = .outOfStep)
    (hb : e.settings.tolerance < e.lastOffset.natAbs) : e.judge = { e with withinRun := 0 } := by
  rw [EchoWatch.judge, hs]
  exact if_pos (by rw [isWithin_of_lt hb]; rfl)

/-- A capture within, OUT_OF_STEP: the third in a row leads to IN_STEP (R133). -/
theorem judge_outOfStep_within {e : EchoWatch} (hs : e.status = .outOfStep)
    (hw : e.lastOffset.natAbs ≤ e.settings.tolerance) :
    e.judge = if e.withinRun + 1 < 3 then { e with withinRun := e.withinRun + 1, beyondRun := 0 }
      else { e with status := .inStep, withinRun := 0, beyondRun := 0 } := by
  rw [EchoWatch.judge, hs]
  exact if_neg (by rw [isWithin_of_le hw]; exact Bool.false_ne_true)

/-- The first capture of a SILENT port decides its status (R135). -/
theorem judge_silent {e : EchoWatch} (hs : e.status = .silent) :
    e.judge = { e with
      status := if e.lastOffset.natAbs ≤ e.settings.tolerance then .inStep else .outOfStep
      withinRun := 0, beyondRun := 0 } := by
  have hj : e.judge = e.become (if e.isWithin then .inStep else .outOfStep) := by rw [EchoWatch.judge, hs]
  simp only [hj, EchoWatch.become, isWithin_iff]

/-! ### ECHO_EDGE -/

@[simp] theorem setWatch_watch_self (p : Port) (e : EchoWatch) (s : State) : (s.setWatch p e).watch[p] = e := by
  rw [State.setWatch, set_get, if_pos rfl]

/-- ECHO_EDGE with no start before it (R131; log 2). -/
theorem exec_echoEdge {s : State} {m : Moment} (hn : s.NoStartBefore m) (p : Port) (ticks : Nat) :
    exec (.echoEdge p ticks m) s = .next (if (s.wtb.passUpTo ticks).state = .unset then s
      else { s with wtb := s.wtb.passUpTo ticks }.setWatch p
        (s.watch[p].edge (s.wtb.passUpTo ticks).c (s.wtb.passUpTo ticks).n)) := by
  simp only [exec, execEchoEdge, event_noStart hn]

theorem passUpTo_state (ticks : Nat) (t : Wtb) : (t.passUpTo ticks).state = t.state := passTicks_state _ t

/-- In UNSET an echo edge does nothing (R131). -/
theorem exec_echoEdge_unset {s : State} {m : Moment} (hn : s.NoStartBefore m) (hs : s.wtb.state = .unset)
    (p : Port) (ticks : Nat) : exec (.echoEdge p ticks m) s = .next s := by
  rw [exec_echoEdge hn, passUpTo_state, if_pos hs]

/-- While the timebase runs, an echo edge reaches its port at the count that the ticks give (R131; log 2). -/
theorem exec_echoEdge_running {s : State} {m : Moment} (hn : s.NoStartBefore m) (hs : s.wtb.state ≠ .unset)
    (p : Port) (ticks : Nat) :
    exec (.echoEdge p ticks m) s = .next ({ s with wtb := s.wtb.passUpTo ticks }.setWatch p
      (s.watch[p].edge (s.wtb.c + min ticks (s.wtb.limit - s.wtb.c)) s.wtb.n)) := by
  have hperiod : (s.wtb.passUpTo ticks).n = s.wtb.n := passTicks_n _ _
  rw [exec_echoEdge hn, passUpTo_state, if_neg hs, passUpTo_c hs, hperiod]

/-- Settles O46, by the mode of the port, the divisor and the status that judges the capture. -/
theorem echoEdgeIsJudged : Obligations.EchoEdgeIsJudged := by
  unfold Obligations.EchoEdgeIsJudged
  rintro s p ticks c m hn rfl
  by_cases hs : s.wtb.state = .unset
  · exact ⟨s, exec_echoEdge_unset hn hs p ticks, fun _ => rfl, fun hrun => absurd hs hrun⟩
  refine ⟨_, exec_echoEdge_running hn hs p ticks, fun hu => absurd hu hs, fun _ => ?_⟩
  simp only [setWatch_watch_self, setWatch_wtb]
  refine ⟨setWatch_eq p _ _, passUpTo_c hs, passUpTo_w _ _, passUpTo_state _ _, passTicks_timebase _ _,
    fun hm => edge_unused hm _ _, fun divisor hd => ?_⟩
  obtain ⟨hm, rfl⟩ := divisor_of_mode hd
  refine ⟨fun h => edge_counted hm h _ _, fun h => ⟨_, _, captureOffset_eq _ _, rfl, ?_⟩⟩
  rw [edge_captured hm h]
  exact ⟨judge_inStep_within, judge_inStep_beyond, judge_outOfStep_beyond, judge_outOfStep_within, judge_silent⟩

/-! ### A strobe at the phase watch (R134, R136) -/

/-- Whether this strobe makes a port SILENT: the 64th without a capture while it is IN_STEP or OUT_OF_STEP (R134). -/
def EchoWatch.FallsSilent (e : EchoWatch) : Prop :=
  (e.status = .inStep ∨ e.status = .outOfStep) ∧ 64 ≤ e.frames + 1

/-- A port in mode UNUSED counts no frames (R134). -/
theorem echoStrobe_unused {e : EchoWatch} (h : e.settings.mode = .unused) : e.strobe = e :=
  if_neg fun hm => (capturing_iff _).1 hm h

/-- The strobe that makes a port SILENT clears both runs (R134). -/
theorem echoStrobe_silenced {e : EchoWatch} (hm : e.settings.mode ≠ .unused) (h : e.FallsSilent) :
    e.strobe = { e with frames := min (e.frames + 1) 64 }.become .silent := by
  obtain ⟨hs, hf⟩ := h
  rw [EchoWatch.strobe, if_pos ((capturing_iff _).2 hm)]
  rcases hs with hs | hs <;> rw [hs] <;> exact if_neg (Nat.not_lt.2 hf)

/-- Every other strobe counts its frame alone (R134). -/
theorem echoStrobe_counted {e : EchoWatch} (hm : e.settings.mode ≠ .unused) (h : ¬ e.FallsSilent) :
    e.strobe = { e with frames := min (e.frames + 1) 64 } := by
  have early (hs : e.status = .inStep ∨ e.status = .outOfStep) : e.frames + 1 < 64 := Nat.not_le.1 fun hf => h ⟨hs, hf⟩
  rw [EchoWatch.strobe, if_pos ((capturing_iff _).2 hm)]
  split
  · next hs => exact if_pos (early (.inl hs))
  · next hs => exact if_pos (early (.inr hs))
  · rfl
  · rfl

/-- The strobe at one port's part of the phase watch. -/
theorem strobe_watch (o : StrobeOrder) (s : State) (p : Port) : (s.strobe o).watch[p] = s.watch[p].strobe := by
  simp only [State.strobe, mapAt_get]

/-- The strobe at one composer: a status that it changes makes a STEP owed (R136). -/
theorem strobe_composers (o : StrobeOrder) (s : State) (p : Port) :
    (s.strobe o).composers[p] = s.composers[p].noteStatus s.watch[p].status s.watch[p].strobe.status := by
  simp only [State.strobe, noteStatuses, mapAt_get]

/-- A port that a strobe makes SILENT owes a STEP (R134, R136). -/
theorem strobe_silences {s : State} {p : Port} (o : StrobeOrder) (hm : s.watch[p].settings.mode ≠ .unused)
    (h : s.watch[p].FallsSilent) :
    (s.strobe o).watch[p] = { s.watch[p] with frames := min (s.watch[p].frames + 1) 64 }.become .silent
      ∧ (s.strobe o).composers[p] = { s.composers[p] with stepOwed := true } := by
  have hne : s.watch[p].status ≠ .silent := by rcases h.1 with hs | hs <;> rw [hs] <;> decide
  rw [strobe_watch, strobe_composers, echoStrobe_silenced hm h]
  exact ⟨rfl, if_neg hne⟩

/-- A port that a strobe does not make SILENT owes nothing new (R134, R136). -/
theorem strobe_counts {s : State} {p : Port} (o : StrobeOrder) (hm : s.watch[p].settings.mode ≠ .unused)
    (h : ¬ s.watch[p].FallsSilent) :
    (s.strobe o).watch[p] = { s.watch[p] with frames := min (s.watch[p].frames + 1) 64 }
      ∧ (s.strobe o).composers[p] = s.composers[p] := by
  rw [strobe_watch, strobe_composers, echoStrobe_counted hm h]
  exact ⟨rfl, if_pos rfl⟩

/-! ### A strobe at the ambient sweep (R5, R17, R141 to R143) -/

theorem strobe_ambient (o : StrobeOrder) (s : State) : (s.strobe o).ambient = s.ambient.strobe s.wtb := rfl

/-- A trigger in IDLE starts a sweep with the sweep count that the ambient sweep holds (R142). -/
theorem trigger_idle {a : Ambient} (h : a.sweep = .idle) (hk : 1 ≤ a.sweepCount) :
    a.trigger = { a with sweep := .sweeping a.sweepCount 0 } := by
  rw [Ambient.trigger, h]
  exact if_pos hk

/-- A trigger during a sweep sets the overrun flag (R143). -/
theorem trigger_sweeping {a : Ambient} (h : a.sweep ≠ .idle) : a.trigger = { a with overrun := true } := by
  unfold Ambient.trigger
  split
  · next hi => exact absurd hi h
  · rfl

theorem trigger_sensors (a : Ambient) : a.trigger.sensors = a.sensors := by
  unfold Ambient.trigger
  split
  · split <;> rfl
  · rfl

/-- A sweep trigger needs a postscaler that returns to 0 and a sweep count, and no pending set (R17). -/
theorem triggersSweep_iff (t : Wtb) :
    t.triggersSweep = true
      ↔ t.pending = none ∧ t.postscaler + 1 = t.common.sweepDivisor ∧ 1 ≤ t.common.sweepCount := by
  simp [Wtb.triggersSweep, Wtb.postscalerWraps, and_assoc]

/-- A strobe that applies a pending set hands its settings on and triggers no sweep (R5, R141). -/
theorem ambientStrobe_applied {t : Wtb} {set : WallSet} (h : t.pending = some set) (a : Ambient) :
    a.strobe t = { a with sweepCount := set.common.sweepCount, filterShift := set.common.filterShift } := by
  rw [Ambient.strobe, h]
  rfl

/-- A strobe without a pending set triggers a sweep or leaves the ambient sweep alone (R17). -/
theorem ambientStrobe_plain {t : Wtb} (h : t.pending = none) (a : Ambient) :
    a.strobe t = if t.triggersSweep then a.trigger else a := by
  rw [Ambient.strobe, h]

theorem ambientStrobe_sensors (t : Wtb) (a : Ambient) : (a.strobe t).sensors = a.sensors := by
  cases h : t.pending with
  | some set => rw [ambientStrobe_applied h]
  | none =>
    rw [ambientStrobe_plain h]
    split
    · exact trigger_sensors a
    · rfl

/-- Settles O47: whatever its cause, the strobe finds the pending set, the settings and the postscaler as they were. -/
theorem strobeAtWatchAndSweep : Obligations.StrobeAtWatchAndSweep := by
  unfold Obligations.StrobeAtWatchAndSweep
  intro i s o h hn
  obtain ⟨t, ht, -, -, hcommon, hpending, hpost, -⟩ := exec_of_strobeOf h
  rw [atMoment_noStart hn] at ht
  refine ⟨_, ht, fun p hm => ?_, fun p hm => ?_, ambientStrobe_sensors _ _, fun set hset =>
    ambientStrobe_applied (hpending.trans hset) _, fun hnone => ?_⟩
  · rw [strobe_watch]
    exact echoStrobe_unused hm
  · split
    · next hsilent =>
      obtain ⟨hwatch, hcomposer⟩ := strobe_silences (s := { s with wtb := t }) o hm hsilent
      rw [hwatch]
      exact ⟨rfl, rfl, rfl, rfl, hcomposer⟩
    · next hsilent =>
      obtain ⟨hwatch, hcomposer⟩ := strobe_counts (s := { s with wtb := t }) o hm hsilent
      exact ⟨by rw [hwatch], hwatch, hcomposer⟩
  · have hplain := hpending.trans hnone
    have htrigger := triggersSweep_iff t
    rw [hpost, hcommon] at htrigger
    rw [strobe_ambient, ambientStrobe_plain hplain]
    refine ⟨fun hnot => if_neg fun htr => ?_, fun hwrap hk => ?_⟩
    · obtain ⟨-, hwrap, hk⟩ := htrigger.1 htr
      omega
    · rw [if_pos (htrigger.2 ⟨hplain, hwrap, hk⟩)]
      exact ⟨trigger_idle, trigger_sweeping⟩

end Sys2Proof.Machine
end

section
/-! PROOFS. The end of a conversion (chapter 9): the filter's step, the rule of each sensor state, and the sensor that comes next. -/

namespace Sys2Proof.Machine

/-! ### The filter (R147, R148) -/

/-- Divided by 2^shift and rounded toward minus infinity, a difference that is not below −F takes no more than F away, so that
the natural number the model keeps is the value of R147 itself. -/
theorem filterStep_int (shift f a : Nat) :
    ((filterStep shift f a : Nat) : Int) = f + ((64 * a : Int) - f) / 2 ^ shift := by
  have hq : (1 : Int) ≤ 2 ^ shift := one_le_pow₀ (by decide)
  have hlow : -(f : Int) ≤ ((64 * a : Int) - f) / 2 ^ shift := by
    rw [Int.le_ediv_iff_mul_le (by omega)]
    nlinarith
  rw [filterStep, show ((a * 64 : Nat) : Int) = 64 * a by omega, Nat.cast_pow, Nat.cast_ofNat]
  exact Int.toNat_of_nonneg (by omega)

/-- Toward minus infinity a negative difference rounds to a step of at least one: F above the sample always falls (R148). -/
theorem filterStep_lt {shift f a : Nat} (h : 64 * a < f) : filterStep shift f a < f := by
  have hfall : ((64 * a : Int) - f) / 2 ^ shift < 0 := Int.ediv_neg_of_neg_of_pos (by omega) (by positivity)
  have := filterStep_int shift f a
  omega

/-- At shift 0 the step is the whole difference (R147). -/
theorem filterStep_zero (f a : Nat) : filterStep 0 f a = 64 * a := by
  have := filterStep_int 0 f a
  rw [pow_zero, Int.ediv_one] at this
  omega

/-- Settles O49: F ends between the value it had and the sample on the filtered scale, both of them on the scale. -/
theorem filterStaysOnScale : Obligations.FilterStaysOnScale := by
  unfold Obligations.FilterStaysOnScale
  intro shift f a hf ha
  have hbetween := filterStep_between shift f a
  exact ⟨filterStep_int shift f a, fun hup => by omega, fun hdown => by omega, filterStep_lt, filterStep_zero f a, by omega⟩

/-! ### The sensor converted (R144 to R146) -/

/-- The rail samples (R140). -/
theorem isRail_iff (a : Nat) : isRail a = true ↔ a = 0 ∨ a = 1023 := by
  rw [isRail, Bool.or_eq_true, decide_eq_true_iff, decide_eq_true_iff, maxSample]

/-- UNSEEDED counts rail samples; any other sample seeds F and makes the sensor GOOD (R144). -/
theorem convert_unseeded {x : Sensor} (h : x.state = .unseeded) (shift a : Nat) :
    x.convert shift a =
      if a = 0 ∨ a = 1023 then { x with last := a, railRun := min (x.railRun + 1) 8 }
      else { x with last := a, f := a * 64, state := .good, railRun := 0 } := by
  simp only [Sensor.convert, h, isRail_iff, sensorRun]

/-- GOOD leaves rail samples out of F, and the eighth in a row makes the sensor FAULTED (R145). -/
theorem convert_good {x : Sensor} (h : x.state = .good) (shift a : Nat) :
    x.convert shift a =
      if a = 0 ∨ a = 1023 then
        if x.railRun < 7 then { x with last := a, railRun := x.railRun + 1 }
        else { x with last := a, state := .faulted, railRun := 0, clearRun := 0 }
      else { x with last := a, f := filterStep shift x.f a, railRun := 0 } := by
  simp only [Sensor.convert, h, isRail_iff]

/-- FAULTED keeps F until the eighth sample in a row that is no rail sample makes the sensor GOOD (R146). -/
theorem convert_faulted {x : Sensor} (h : x.state = .faulted) (shift a : Nat) :
    x.convert shift a =
      if a = 0 ∨ a = 1023 then { x with last := a, clearRun := 0 }
      else if x.clearRun < 7 then { x with last := a, clearRun := x.clearRun + 1 }
      else { x with last := a, f := filterStep shift x.f a, state := .good, railRun := 0, clearRun := 0 } := by
  simp only [Sensor.convert, h, isRail_iff]

/-! ### The sweep after it (R142) -/

/-- Before S(k−1) the sweep goes on to the next sensor (R142). -/
theorem nextConversion_next {k : Nat} {i : SensorId} (hk : k ≤ 8) (h : i.val + 1 < k) :
    ∃ j : SensorId, j.val = i.val + 1 ∧ nextConversion k i = .sweeping k j :=
  ⟨⟨i.val + 1, by omega⟩, rfl, dif_pos ⟨h, by omega⟩⟩

/-- After S(k−1) the sweep ends (R142). -/
theorem nextConversion_last {k : Nat} {i : SensorId} (h : k ≤ i.val + 1) : nextConversion k i = .idle :=
  dif_neg fun hnext => by omega

/-! ### CONVERSION_END -/

theorem conversionEnd_idle {a : Ambient} (h : a.sweep = .idle) (sample : Nat) : a.conversionEnd sample = a := by
  rw [Ambient.conversionEnd, h]

/-- A result on the scale reaches the sensor as it is (R140). -/
theorem conversionEnd_sweeping {a : Ambient} {k : Nat} {i : SensorId} (h : a.sweep = .sweeping k i) {sample : Nat}
    (hs : sample ≤ 1023) :
    a.conversionEnd sample = { a with
      sweep := nextConversion k i, sensors := a.sensors.set i (a.sensors[i].convert a.filterShift sample) } := by
  have hmin : min sample maxSample = sample := Nat.min_eq_left hs
  simp only [Ambient.conversionEnd, h, hmin]
  rfl

/-- CONVERSION_END with no start before it (R140). -/
theorem exec_conversionEnd {s : State} {m : Moment} (hn : s.NoStartBefore m) (a : Nat) :
    exec (.conversionEnd a m) s = .next { s with ambient := s.ambient.conversionEnd a } :=
  event_noStart hn fun u => { u with ambient := u.ambient.conversionEnd a }

/-- Settles O48, by the state of the sweep and then of the sensor converted. -/
theorem conversionEnds : Obligations.ConversionEnds := by
  unfold Obligations.ConversionEnds
  intro s a m hn ha
  refine ⟨fun hidle => by rw [exec_conversionEnd hn, conversionEnd_idle hidle], ?_⟩
  rintro k i x hsweep hk rfl
  refine ⟨_, exec_conversionEnd hn a, ?_⟩
  have hsensor : (s.ambient.conversionEnd a).sensors[i] = s.ambient.sensors[i].convert s.ambient.filterShift a := by
    rw [conversionEnd_sweeping hsweep ha, set_get, if_pos rfl]
  have hnext : (s.ambient.conversionEnd a).sweep = nextConversion k i := by rw [conversionEnd_sweeping hsweep ha]
  dsimp only
  rw [hsensor, hnext]
  exact ⟨by rw [conversionEnd_sweeping hsweep ha], nextConversion_next hk, nextConversion_last,
    fun h => convert_unseeded h _ _, fun h => convert_good h _ _, fun h => convert_faulted h _ _⟩

end Sys2Proof.Machine
end

section
/-! PROOFS. Zone dimming (chapter 10): the curve's target, the least fade factor, the computation of a zone at a strobe and a wrap
of the PWM counter. -/

namespace Sys2Proof.Machine

/-! ### The curve's target (R154) -/

theorem breakpoint_eq (z : ZoneConfig) {k : Nat} {i : Fin 9} (h : i.val = k) : z.breakpoint k = z.curve[i] := by
  subst h
  simp only [ZoneConfig.breakpoint, Fin.ofNat_val_eq_self]

/-- Inside a segment the share of a rise lies between 0 and the rise, and is all of it only when there is no rise. -/
theorem rise_share {d : Int} (hd : 0 ≤ d) {r : Nat} (hr : r < 8192) :
    0 ≤ (d * r).tdiv 8192 ∧ (d * r).tdiv 8192 ≤ d ∧ ((d * r).tdiv 8192 = d → d = 0) := by
  have hlow : 0 ≤ d * r := mul_nonneg hd (by omega)
  have hhigh : d * r ≤ d * 8191 := mul_le_mul_of_nonneg_left (by omega) hd
  rw [Int.tdiv_eq_ediv_of_nonneg hlow]
  omega

/-- Truncated toward zero, the share of a fall is that of the opposite rise. -/
theorem fall_share {d : Int} (hd : d ≤ 0) {r : Nat} (hr : r < 8192) :
    (d * r).tdiv 8192 ≤ 0 ∧ d ≤ (d * r).tdiv 8192 ∧ ((d * r).tdiv 8192 = d → d = 0) := by
  have hrise := rise_share (d := -d) (by omega) hr
  rw [neg_mul, Int.neg_tdiv] at hrise
  omega

/-- With its share added, a breakpoint stays between the two of its segment, and comes to the upper one only from an equal one. -/
theorem segment_between (a b : Nat) {r : Nat} (hr : r < 8192) :
    min (a : Int) b ≤ a + (((b : Int) - a) * r).tdiv 8192 ∧ a + (((b : Int) - a) * r).tdiv 8192 ≤ max (a : Int) b
      ∧ (a + (((b : Int) - a) * r).tdiv 8192 = b → a = b) := by
  rcases le_total a b with h | h
  · have := rise_share (d := (b : Int) - a) (by omega) hr
    omega
  · have := fall_share (d := (b : Int) - a) (by omega) hr
    omega

/-- The target between two breakpoints: the number that R154 gives is not negative, so that the model's natural number is it. -/
theorem target_int (z : ZoneConfig) {f : Nat} {low high : Fin 9} (hlow : low.val = f / 8192)
    (hhigh : high.val = f / 8192 + 1) :
    ((z.target f : Nat) : Int)
      = z.curve[low] + (((z.curve[high] : Int) - z.curve[low]) * (f % 8192 : Nat)).tdiv 8192 := by
  have hbetween := segment_between z.curve[low] z.curve[high] (Nat.mod_lt f (by decide : 0 < 8192))
  rw [ZoneConfig.target, segmentWidth, breakpoint_eq z hlow, breakpoint_eq z hhigh, Nat.cast_ofNat]
  exact Int.toNat_of_nonneg (by omega)

/-- Settles O50, by what a segment's share is on a rise and on a fall. -/
theorem curveTarget : Obligations.CurveTarget := by
  unfold Obligations.CurveTarget
  intro z f low high _ hlow hhigh
  have htarget := target_int z hlow hhigh
  obtain ⟨hmin, hmax, hreach⟩ := segment_between z.curve[low] z.curve[high] (Nat.mod_lt f (by decide : 0 < 8192))
  rw [← htarget] at hmin hmax hreach
  refine ⟨?_, by omega, by omega, fun hall => ?_, fun _ hend => hreach (by omega)⟩
  · rw [htarget, Nat.mod_def]
  · have := hall low
    have := hall high
    omega

/-! ### The fade factor (R157) -/

/-- The two fade windows of a cue, frame by frame. -/
theorem fadeAt_eq_some_iff {lo li : Nat} {ahead : Int} {g : Nat} :
    fadeAt lo li ahead = some g
      ↔ (∃ j : Nat, 1 ≤ j ∧ j ≤ lo ∧ ahead = (lo : Int) - j ∧ g = 256 - 256 * j / lo)
        ∨ ∃ j : Nat, 1 ≤ j ∧ j ≤ li ∧ ahead = -(j : Int) ∧ g = 256 * j / li := by
  unfold fadeAt
  constructor
  · intro h
    split at h
    · next hout => exact .inl ⟨lo - ahead.toNat, by omega, by omega, by omega, (Option.some.inj h).symm⟩
    · split at h
      · next hin => exact .inr ⟨(-ahead).toNat, by omega, by omega, by omega, (Option.some.inj h).symm⟩
      · cases h
  · rintro (⟨j, h1, hlo, rfl, rfl⟩ | ⟨j, h1, hli, rfl, rfl⟩)
    · rw [if_pos (by omega), show lo - ((lo : Int) - j).toNat = j by omega]
    · rw [if_neg (by omega), if_pos (by omega), show (- -(j : Int)).toNat = j by omega]

theorem fades_iff (c : Cue) (p : Port) :
    c.fades p = true ↔ c.transition = .dim ∧ (c.state = .armed ∨ c.state = .taken) ∧ inMask c.armed p = true := by
  simp only [Cue.fades, Bool.and_eq_true, Bool.or_eq_true, decide_eq_true_eq, and_assoc]

theorem cueFadeFactor_eq_some_iff {w : Frame} {p : Port} {c : Cue} {g : Nat} :
    c.fadeFactor w p = some g ↔ c.fades p = true ∧ fadeAt c.lo c.li (c.ahead w) = some g := by
  simp [Cue.fadeFactor]

/-- The factor of a zone with an owner is the minimum of the cues' factors, counted as 256 outside their windows. -/
theorem fadeFactor_eq_foldl (w : Frame) (live : List Cue) (p : Port) :
    fadeFactor w live (some p) = (live.map fun c => (c.fadeFactor w p).getD 256).foldl min 256 :=
  List.foldl_map.symm

/-- One more cue in the table: the smaller of its factor and that of the others. -/
theorem fadeFactor_cons (w : Frame) (c : Cue) (live : List Cue) (p : Port) :
    fadeFactor w (c :: live) (some p) = min ((c.fadeFactor w p).getD 256) (fadeFactor w live (some p)) := by
  rw [fadeFactor_eq_foldl, fadeFactor_eq_foldl, List.map_cons, List.foldl_cons, min_comm, List.foldl_assoc]

/-- No cue in a window has a smaller factor than the zone's. -/
theorem fadeFactor_le_of_mem {w : Frame} {live : List Cue} {p : Port} {c : Cue} {g : Nat} (hc : c ∈ live)
    (hg : c.fadeFactor w p = some g) : fadeFactor w live (some p) ≤ g := by
  induction live with
  | nil => cases hc
  | cons x live ih =>
    rw [fadeFactor_cons]
    rcases List.mem_cons.1 hc with rfl | hc
    · exact (min_le_left _ _).trans (by rw [hg]; rfl)
    · exact (min_le_right _ _).trans (ih hc)

/-- Below 256 the zone's factor is that of a cue in a window. -/
theorem fadeFactor_attained {w : Frame} {live : List Cue} {p : Port} (h : fadeFactor w live (some p) < 256) :
    ∃ c ∈ live, c.fadeFactor w p = some (fadeFactor w live (some p)) := by
  induction live with
  | nil => exact absurd h (lt_irrefl 256)
  | cons x live ih =>
    rw [fadeFactor_cons] at h ⊢
    rcases min_choice ((x.fadeFactor w p).getD 256) (fadeFactor w live (some p)) with hmin | hmin <;> rw [hmin] at h ⊢
    · cases hx : x.fadeFactor w p with
      | none => rw [hx] at h; exact absurd h (lt_irrefl 256)
      | some g => exact ⟨x, List.mem_cons_self, hx⟩
    · obtain ⟨c, hc, hg⟩ := ih h
      exact ⟨c, List.mem_cons_of_mem _ hc, hg⟩

/-- Settles O51: the factor is a lower bound of those of the cues in a window, and one of them when it is below 256. -/
theorem fadeFactorIsLeast : Obligations.FadeFactorIsLeast := by
  unfold Obligations.FadeFactorIsLeast
  intro w live p _
  refine ⟨rfl, fadeFactor_le w live _, fun c hc hdim hstate harmed => ?_, fun hlt => ?_⟩
  · have hbound {g : Nat} (hg : fadeAt c.lo c.li (c.ahead w) = some g) : fadeFactor w live (some p) ≤ g :=
      fadeFactor_le_of_mem hc (cueFadeFactor_eq_some_iff.2 ⟨(fades_iff c p).2 ⟨hdim, hstate, harmed⟩, hg⟩)
    exact ⟨fun j h1 hlo ha => hbound (fadeAt_eq_some_iff.2 (.inl ⟨j, h1, hlo, ha, rfl⟩)),
      fun j h1 hli ha => hbound (fadeAt_eq_some_iff.2 (.inr ⟨j, h1, hli, ha, rfl⟩))⟩
  · obtain ⟨c, hc, hg⟩ := fadeFactor_attained hlt
    obtain ⟨hfades, hat⟩ := cueFadeFactor_eq_some_iff.1 hg
    obtain ⟨hdim, hstate, harmed⟩ := (fades_iff c p).1 hfades
    exact ⟨c, hc, hdim, hstate, harmed, fadeAt_eq_some_iff.1 hat⟩

/-! ### The computation of a zone at a strobe (R152, R153, R155, R156) -/

/-- The ambient value of a zone without a sensor (R153). -/
theorem zoneAmbient_fixed {z : ZoneConfig} (h : z.sensor = none) (sensors : Vector Sensor 8) :
    z.ambient sensors = 64 * z.fixedAmbient := by
  rw [ZoneConfig.ambient, h, mul_comm]

/-- The ambient value of a zone with a sensor: F once the sensor is seeded (R153). -/
theorem zoneAmbient_sensor {z : ZoneConfig} {j : SensorId} (h : z.sensor = some j) (sensors : Vector Sensor 8) :
    z.ambient sensors = if sensors[j].state = .unseeded then 64 * z.fixedAmbient else sensors[j].f := by
  simp only [ZoneConfig.ambient, h]
  cases sensors[j].state with
  | unseeded => exact mul_comm _ _
  | good => rfl
  | faulted => rfl

theorem clampedBase_eq {z : ZoneConfig} (h : z.dmin ≤ z.dmax) (target : Nat) :
    z.clampedBase target = max z.dmin (min z.dmax (target * z.trim / 64)) :=
  clampNat_eq h _

/-- Within the slew the applied base becomes the clamped base (R156). -/
theorem slewTo_within {slew ba base : Nat} (hup : (base : Int) - ba ≤ slew) (hdown : (ba : Int) - base ≤ slew) :
    slewTo slew ba base = base := by
  rw [slewTo, if_neg (by omega), if_neg (by omega)]

/-- A base further above than the slew is approached by the slew (R156). -/
theorem slewTo_above {slew ba base : Nat} (h : (slew : Int) < (base : Int) - ba) : slewTo slew ba base = ba + slew :=
  if_pos (by omega)

/-- A base further below than the slew is approached by the slew (R156). -/
theorem slewTo_below {slew ba base : Nat} (h : (slew : Int) < (ba : Int) - base) : slewTo slew ba base = ba - slew := by
  rw [slewTo, if_neg (by omega), if_pos (by omega)]

/-- The period after a strobe: the one that an applied pending set hands over, or else the one before it (R162). -/
theorem strobe_period (o : StrobeOrder) (s : State) :
    (s.strobe o).dimmer.p = match s.wtb.pending with | some set => set.common.pwmPeriod | none => s.dimmer.p := by
  simp only [State.strobe, Dimmer.strobe]
  cases s.wtb.pending <;> rfl

/-- The zone dimmer at a strobe computes every zone on the new W and on the cues as the arming unit leaves them (R109, R152). -/
theorem strobe_zone (o : StrobeOrder) (s : State) (z : ZoneId) :
    (s.strobe o).dimmer.zones[z] = s.dimmer.zones[z].compute (s.strobe o).wtb.w (s.strobe o).sched.live s.ambient.sensors
      (if o.handoverFirst then (s.strobe o).dimmer.p else s.dimmer.p) := by
  simp only [State.strobe, Dimmer.strobe, mapAt_get]

/-- A strobe leaves the PWM counter alone. -/
theorem strobe_counter (o : StrobeOrder) (s : State) :
    (s.strobe o).dimmer.counter = s.dimmer.counter ∧ (s.strobe o).dimmer.counterPeriod = s.dimmer.counterPeriod
      ∧ (s.strobe o).dimmer.running = s.dimmer.running :=
  ⟨rfl, rfl, rfl⟩

/-- The starts before an event leave the sensors alone. -/
@[simp] theorem atMoment_sensors (m : Moment) (s : State) : (s.atMoment m).ambient.sensors = s.ambient.sensors := by
  rw [atMoment_frame]

/-- A command that ends the frame answers a strobe on a state with the zone dimmer, the sensors and the pending set of the state it
finds. -/
theorem strobeOf_finds_dimmer {i : Instr} {s : State} {o : StrobeOrder} (h : strobeOf i s = some o) :
    ∃ u : State, exec i s = .next (u.strobe o)
      ∧ u.dimmer = s.dimmer ∧ u.ambient.sensors = s.ambient.sensors ∧ u.wtb.pending = s.wtb.pending := by
  obtain ⟨t, ht, -, -, -, hpending, -, -⟩ := exec_of_strobeOf h
  exact ⟨_, ht, atMoment_dimmer _ _, atMoment_sensors _ _, hpending⟩

/-- Settles O52: whatever its cause, the strobe computes on the zones, the sensors and the pending set as they were. -/
theorem strobeComputesZones : Obligations.StrobeComputesZones := by
  unfold Obligations.StrobeComputesZones
  intro i s o z old h hold hlimits
  obtain ⟨u, hu, hdimmer, hsensors, hpending⟩ := strobeOf_finds_dimmer h
  have hperiod := strobe_period o u
  have hzone := strobe_zone o u z
  have hcounter := strobe_counter o u
  rw [hdimmer] at hperiod hzone hcounter
  rw [hpending] at hperiod
  rw [hsensors, ← hold] at hzone
  refine ⟨u.strobe o, old.config.ambient s.ambient.sensors,
    old.config.clampedBase (old.config.target (old.config.ambient s.ambient.sensors)),
    if o.handoverFirst then (u.strobe o).dimmer.p else s.dimmer.p, hu, ?_⟩
  rw [hzone]
  exact ⟨rfl, rfl, fun hnone => zoneAmbient_fixed hnone _, fun j hj => zoneAmbient_sensor hj _, clampedBase_eq hlimits _,
    slewTo_within, slewTo_above, slewTo_below, rfl, rfl, hperiod, rfl, rfl, hcounter⟩

/-! ### A wrap of the PWM counter (R161, R162) -/

/-- WRAP with no start before it (R161). -/
theorem exec_wrap {s : State} {m : Moment} (hn : s.NoStartBefore m) :
    exec (.wrap m) s = .next { s with dimmer := s.dimmer.wrap } :=
  event_noStart hn fun u => { u with dimmer := u.dimmer.wrap }

/-- While the counter runs, an output is high exactly for the counts below its active compare (R161). -/
theorem output_iff {d : Dimmer} (h : d.running = true) (z : ZoneId) : d.output z = true ↔ d.counter < d.zones[z].active := by
  rw [Dimmer.output, h, Bool.true_and, decide_eq_true_iff]

/-- A wrap makes the compare buffer of every zone its active compare (R162). -/
theorem wrap_zone {d : Dimmer} (h : d.running = true) (z : ZoneId) :
    d.wrap.zones[z] = { d.zones[z] with active := d.zones[z].buffer } := by
  simp only [dimmerWrap_runs h, mapAt_get]

/-- Settles O53: the wrap of a running counter, and the outputs at each count of the period that it begins. -/
theorem wrapLoadsCompares : Obligations.WrapLoadsCompares := by
  unfold Obligations.WrapLoadsCompares
  intro s m hn hrun
  have hwrap := dimmerWrap_runs hrun
  have hruns : s.dimmer.wrap.running = true := by rw [hwrap]; exact hrun
  refine ⟨_, exec_wrap hn, rfl, by rw [hwrap], by rw [hwrap], by rw [hwrap], hruns, wrap_zone hrun, fun z count hcount => ?_⟩
  have hout := output_iff (d := { s.dimmer.wrap with counter := count }) hruns z
  exact ⟨hout, fun hzero => Bool.eq_false_iff.2 fun hhigh => Nat.not_lt_zero count (hzero ▸ hout.1 hhigh),
    fun hfull => hout.2 (hcount.trans_le hfull)⟩

end Sys2Proof.Machine
end

section
/-! PROOFS. The settings page and start-up (chapter 11): the phases of a save (R88, R167), and what a reset of the part makes
of every block after the starts that come before it (R31, R168, R169). -/

namespace Sys2Proof.Machine

/-! ### The phases of a save (R167) -/

theorem erased_of_erase {page : SettingsPage} {snapshot : Settings} (h : page.state = .saving .erase snapshot) :
    page.erased = { page with state := .saving .program snapshot, record := none } := by
  rw [SettingsPage.erased, h]

theorem programmed_of_program {page : SettingsPage} {snapshot : Settings} (h : page.state = .saving .program snapshot) :
    page.programmed = { page with state := .saving .check snapshot, record := some snapshot } := by
  rw [SettingsPage.programmed, h]

theorem matched_of_check {page : SettingsPage} {snapshot : Settings} (h : page.state = .saving .check snapshot) :
    page.matched = { page with state := .saving .mark snapshot } := by
  rw [SettingsPage.matched, h]

/-- The end of a save on the edit unit's side is the completion of the ACTIVE edit (R74, R88). -/
theorem completeSave_active {s : State} {p : Port} {x : EditSlot} (ha : s.eu.active = some (p, x)) (outcome : EditOutcome) :
    s.completeSave outcome = s.finishEdit p outcome := by
  rw [State.completeSave, ha]

/-- The end of a save on both sides: the page is IDLE and the ACTIVE edit completes (R167). -/
theorem endSave_completeSave {s : State} {p : Port} {x : EditSlot} (ha : s.eu.active = some (p, x)) (marked : Bool)
    (outcome : EditOutcome) : { s with page := s.page.endSave marked }.completeSave outcome
      = State.finishEdit p outcome { s with page := { s.page with state := .idle, marker := marked } } :=
  completeSave_active (s := { s with page := s.page.endSave marked }) ha outcome

section
variable {s : State} {m : Moment} {snapshot : Settings} {p : Port} {x : EditSlot}

theorem exec_erase (hn : s.NoStartBefore m) (h : s.page.state = .saving .erase snapshot) :
    exec (.erase m) s = .next { s with page := { s.page with state := .saving .program snapshot, record := none } } := by
  rw [← erased_of_erase h]
  exact event_noStart hn fun u => { u with page := u.page.erased }

theorem exec_program (hn : s.NoStartBefore m) (h : s.page.state = .saving .program snapshot) :
    exec (.program m) s
      = .next { s with page := { s.page with state := .saving .check snapshot, record := some snapshot } } := by
  rw [← programmed_of_program h]
  exact event_noStart hn fun u => { u with page := u.page.programmed }

/-- CHECK in the check phase: a match goes on to the mark phase, a mismatch ends the save. -/
theorem exec_check (hn : s.NoStartBefore m) (h : s.page.state = .saving .check snapshot) (found : Bool) :
    exec (.check found m) s = .next (if found then { s with page := s.page.matched }
      else { s with page := s.page.endSave false }.completeSave .storeFault) := by
  have hphase : s.page.inPhase .check = true := inPhase_iff.2 ⟨snapshot, h⟩
  exact (event_noStart hn fun u => if u.page.inPhase .check then
      if found then { u with page := u.page.matched }
      else { u with page := u.page.endSave false }.completeSave .storeFault
    else u).trans (congrArg _ (if_pos hphase))

/-- SAVE: the end of the mark phase for an edit unit in STORING, else the completion of an edit that is being worked on. -/
theorem exec_save (hn : s.NoStartBefore m) :
    exec (.save m) s = .next (if s.eu.state = .storing ∧ s.page.inPhase .mark = true then
      { s with page := s.page.endSave true }.completeSave .accepted
    else s.complete .save saveRefused fun _ _ u => u) :=
  event_noStart hn fun u : State => if u.eu.state = .storing ∧ u.page.inPhase .mark = true then
      State.completeSave .accepted { u with page := u.page.endSave true }
    else u.complete .save saveRefused fun _ _ v => v

theorem exec_check_matched (hn : s.NoStartBefore m) (h : s.page.state = .saving .check snapshot) :
    exec (.check true m) s = .next { s with page := { s.page with state := .saving .mark snapshot } } := by
  rw [exec_check hn h, if_pos rfl, matched_of_check h]

theorem exec_check_mismatched (hn : s.NoStartBefore m) (ha : s.eu.active = some (p, x))
    (h : s.page.state = .saving .check snapshot) :
    exec (.check false m) s = .next (State.finishEdit p .storeFault
      { s with page := { s.page with state := .idle, marker := false } }) := by
  rw [exec_check hn h, if_neg Bool.false_ne_true, endSave_completeSave ha]

theorem exec_save_marked (hn : s.NoStartBefore m) (ha : s.eu.active = some (p, x)) (h : s.page.state = .saving .mark snapshot)
    (hs : s.eu.state = .storing) :
    exec (.save m) s = .next (State.finishEdit p .accepted
      { s with page := { s.page with state := .idle, marker := true } }) := by
  rw [exec_save hn, if_pos ⟨hs, inPhase_iff.2 ⟨snapshot, h⟩⟩, endSave_completeSave ha]

/-- A SAVE that the edit unit works on was taken without the right (R88). -/
theorem exec_save_refused (hn : s.NoStartBefore m) (ha : s.eu.active = some (p, x)) (hw : s.eu.state = .working)
    (hk : Message.kind x.edit = some .save) : exec (.save m) s = .next (s.finishEdit p .isProtected) := by
  have hidle : ¬ (s.eu.state = .storing ∧ s.page.inPhase .mark = true) := fun ⟨hs, _⟩ => by rw [hw] at hs; cases hs
  rw [exec_save hn, if_neg hidle, complete_refused (o := .isProtected) hw ha hk rfl (by decide)]

end

/-- Settles O39, phase by phase. -/
theorem savePhases : Obligations.SavePhases := by
  unfold Obligations.SavePhases
  intro s p x snapshot m hn ha
  exact ⟨exec_erase hn, exec_program hn, fun h => ⟨exec_check_matched hn h, exec_check_mismatched hn ha h⟩,
    exec_save_marked hn ha, exec_save_refused hn ha⟩

/-! ### The page under the starts of messages (R73, R88, R167) -/

/-- The arbiter leaves the page as it is or begins a save (R88, R166). -/
theorem arbitrate_page (s : State) :
    s.arbitrate.page = s.page ∨ ∃ snapshot, s.arbitrate.page = s.page.beginSave snapshot := by
  rcases arbitrate_cases s with h | ⟨_, _, _, _, _, ⟨_, h⟩ | ⟨_, h⟩⟩ <;> rw [h]
  · exact .inl rfl
  · exact .inr ⟨_, rfl⟩
  · exact .inl rfl

/-- A sending leaves the page as it is or begins a save: that of an EDIT_RESULT frees an edit slot, and the arbiter may take a
SAVE (R73, R88). -/
theorem send_page (p : Port) (x : Choice) (s : State) :
    (s.send p x).page = s.page ∨ ∃ snapshot, (s.send p x).page = s.page.beginSave snapshot := by
  cases x with
  | editResult slot outcome =>
    have hrefill : (((s.transmit p 68 (editResultChars slot outcome)).modifySlots p dropFirstDone).refill p).page = s.page := by
      rw [refill_frame]; rfl
    have harbiter := arbitrate_page (((s.transmit p 68 (editResultChars slot outcome)).modifySlots p dropFirstDone).refill p)
    rw [hrefill] at harbiter
    exact harbiter
  | report subject index =>
    obtain ⟨-, -, -, -, hpage⟩ := send_report_frame p subject index s
    exact .inl hpage
  | commit | retiredAbort | liveAbort | defer | prepare | step => exact .inl rfl

/-- A save that a start has begun has left the marker absent (R167). -/
theorem startDue_begun_marker {s : State} {snapshot : Settings} (hidle : s.page.state = .idle)
    (h : s.startDue.page.state = .saving .erase snapshot) : s.startDue.page.marker = false := by
  refine startDue_induction (P := fun u => u.page.state = .saving .erase snapshot → u.page.marker = false)
    (fun p u hu => ?_) (fun hs => by rw [hidle] at hs; cases hs) h
  rcases startOn_cases p u with ⟨_, he⟩ | ⟨x, _, he⟩ <;> rw [he]
  · exact hu
  rcases send_page p x u with hp | ⟨_, hp⟩ <;> rw [hp]
  · exact hu
  · exact fun _ => rfl

/-! ### CTS under the starts of messages -/

theorem cts_of_line {k l : Link} (h : k.line = l.line) : k.cts = l.cts := congrArg Prod.snd h

theorem transmit_cts (p q : Port) (kind : Byte) (rest : List Byte) (s : State) :
    (s.transmit p kind rest).links[q].cts = s.links[q].cts := by
  rw [transmit_get]
  split <;> rfl

theorem send_cts (p q : Port) (x : Choice) (s : State) : (s.send p x).links[q].cts = s.links[q].cts := by
  cases x with
  | editResult slot outcome =>
    rw [State.send, arbitrate_links, cts_of_line (refill_line p q _)]
    exact transmit_cts p q _ _ s
  | report subject index => exact (transmit_cts p q _ _ _).trans (cts_of_line (reportEffects_line _ q s))
  | commit | retiredAbort | liveAbort | defer | prepare | step => exact transmit_cts p q _ _ _

/-- No start changes the level of CTS, which is the outside's (R30). -/
theorem atMoment_cts (m : Moment) (q : Port) (s : State) : (s.atMoment m).links[q].cts = s.links[q].cts := by
  cases m with
  | together => rfl
  | later =>
    refine startDue_induction (P := fun u => u.links[q].cts = s.links[q].cts) (fun p u hu => ?_) rfl
    rcases startOn_cases p u with ⟨_, he⟩ | ⟨x, _, he⟩ <;> rw [he]
    · exact hu
    · exact (send_cts p q x u).trans hu

/-! ### The blocks after a reset of the part (R169) -/

theorem resetBlocks_page (s : State) : s.resetBlocks.page = ⟨.loading false, s.page.record, s.page.marker⟩ := rfl

theorem resetBlocks_link (p : Port) (s : State) : s.resetBlocks.links[p] = Link.reset s.links[p].cts :=
  mapAt_get _ _ p

theorem resetBlocks_slots (p : Port) (s : State) : s.resetBlocks.eu.slots[p] = [] :=
  Vector.getElem_replicate p.isLt

theorem resetBlocks_take (p : Port) (s : State) : s.resetBlocks.sched.take[p] = false :=
  Vector.getElem_replicate p.isLt

theorem resetBlocks_aborts (p : Port) (s : State) : s.resetBlocks.sched.aborts[p] = [] :=
  Vector.getElem_replicate p.isLt

theorem resetBlocks_composer (p : Port) (s : State) : s.resetBlocks.composers[p] = .reset :=
  Vector.getElem_replicate p.isLt

theorem resetBlocks_watch (p : Port) (s : State) : s.resetBlocks.watch[p] = .reset :=
  Vector.getElem_replicate p.isLt

theorem resetBlocks_sensor (i : SensorId) (s : State) : s.resetBlocks.ambient.sensors[i] = .reset :=
  Vector.getElem_replicate i.isLt

theorem resetBlocks_zone (z : ZoneId) (s : State) : s.resetBlocks.dimmer.zones[z] = .reset :=
  Vector.getElem_replicate z.isLt

/-- A stopped counter holds every output low (R161, R164). -/
theorem reset_output (z : ZoneId) : Dimmer.reset.output z = false := by
  rw [Dimmer.output, Dimmer.reset, Bool.false_and]

/-- Settles O54, block by block: a reset of either kind resets the blocks that the starts before it leave. -/
theorem resetsSetEveryBlock : Obligations.ResetsSetEveryBlock := by
  unfold Obligations.ResetsSetEveryBlock
  intro s m
  have hlink : ∀ p : Port, (s.atMoment m).resetBlocks.links[p] = Link.reset s.links[p].cts := fun p => by
    rw [resetBlocks_link, atMoment_cts]
  refine ⟨(s.atMoment m).resetBlocks, rfl, rfl, rfl, rfl, atMoment_pending m s, fun hn => ?quiet,
    fun snapshot hm hsave hidle => ?begun, rfl, rfl, rfl, rfl, rfl, rfl, rfl, rfl, rfl, rfl, rfl, rfl, rfl, rfl,
    fun p => ⟨hlink p, ?rtr⟩, fun p => resetBlocks_slots p _, rfl, rfl, rfl,
    rfl, rfl, fun p => ⟨resetBlocks_take p _, resetBlocks_aborts p _⟩,
    fun p => ⟨resetBlocks_composer p _, resetBlocks_watch p _⟩,
    rfl, rfl, rfl, rfl, fun i => resetBlocks_sensor i _,
    rfl, rfl, rfl, rfl, fun z => ⟨resetBlocks_zone z _, reset_output z⟩⟩
  case quiet => rw [resetBlocks_page, atMoment_noStart hn]
  case begun => rw [resetBlocks_page, hm, atMoment_later, startDue_begun_marker hidle hsave]
  case rtr => rw [hlink]; rfl

end Sys2Proof.Machine
end

section
/-! PROOFS. The queue of waiting commands: a step takes its front, and no command changes it (chapter 95, opening; log 19). -/

namespace Sys2Proof.Machine

/-- Settles O1. -/
theorem stepRunsFrontCommand : Obligations.StepRunsFrontCommand := by
  unfold Obligations.StepRunsFrontCommand
  intro i rest s hq
  rw [step, hq]

/-! ### The shared operations -/

@[simp] theorem send_pending (p : Port) (x : Choice) (s : State) : (s.send p x).pending = s.pending := by
  rw [send_frame]

@[simp] theorem startOn_pending (p : Port) (s : State) : (s.startOn p).pending = s.pending := by
  rw [startOn_frame]

@[simp] theorem receive_pending (p : Port) (ch : LineChar) (s : State) : (s.receive p ch).pending = s.pending := by
  rw [receive_frame]

@[simp] theorem finishEdit_pending (p : Port) (outcome : EditOutcome) (s : State) :
    (s.finishEdit p outcome).pending = s.pending := by
  rw [finishEdit_frame]

@[simp] theorem completeSave_pending (outcome : EditOutcome) (s : State) : (s.completeSave outcome).pending = s.pending := by
  unfold State.completeSave
  split
  · rfl
  · exact finishEdit_pending _ _ _

/-- A completion leaves the queue alone when what an ACCEPTED edit does leaves it alone. -/
theorem complete_pending {kind : RequestKind} {outcome : Port → Message → State → EditOutcome}
    {apply : Port → Message → State → State} (h : ∀ p m u, (apply p m u).pending = u.pending) (s : State) :
    (s.complete kind outcome apply).pending = s.pending := by
  rcases complete_cases kind outcome apply s with hc | ⟨p, slot, _, _, _, ⟨_, hc⟩ | ⟨_, hc⟩⟩ <;> rw [hc]
  · rw [finishEdit_pending, h]
  · rw [finishEdit_pending]

/-! ### The edits -/

theorem cuePutApply_pending (p : Port) (m : Message) (s : State) : (cuePutApply p m s).pending = s.pending := by
  unfold cuePutApply; split <;> rfl

theorem cueDropApply_pending (p : Port) (m : Message) (s : State) : (cueDropApply p m s).pending = s.pending := by
  unfold cueDropApply; split <;> rfl

theorem zoneSetApply_pending (p : Port) (m : Message) (s : State) : (zoneSetApply p m s).pending = s.pending := by
  unfold zoneSetApply; split <;> rfl

theorem acceptWall_pending (set : WallSet) (s : State) : (s.acceptWall set).pending = s.pending := by
  unfold State.acceptWall; split <;> rfl

theorem wallSetApply_pending (p : Port) (m : Message) (s : State) : (wallSetApply p m s).pending = s.pending := by
  unfold wallSetApply
  split
  · rfl
  · exact acceptWall_pending _ _

theorem phaseSetApply_pending (p : Port) (m : Message) (s : State) : (phaseSetApply p m s).pending = s.pending := by
  unfold phaseSetApply; split <;> rfl

theorem permitApply_pending (p : Port) (m : Message) (s : State) : (permitApply p m s).pending = s.pending := by
  unfold permitApply; split <;> rfl

/-! ### Every command -/

/-- An event whose effect leaves the queue alone leaves it alone, whatever starts come before it. -/
theorem event_pending {m : Moment} {f : State → State} {s t : State} (h : s.event m f = .next t)
    (hf : (f (s.atMoment m)).pending = (s.atMoment m).pending) : t.pending = s.pending := by
  cases h
  rw [hf, atMoment_pending]

/-- No command changes the queue, the resets of the part and the ends of frames among them (log 19). -/
theorem exec_pending {i : Instr} {s t : State} (h : exec i s = .next t) : t.pending = s.pending := by
  cases hp : sendPort i with
  | some p =>
    rcases exec_send_cases hp s with he | ⟨x, _, he⟩ <;> rw [he] at h <;> cases h
    · rfl
    · exact send_pending p x s
  | none =>
  rw [exec.eq_def] at h
  cases i with
  | prepare | defer | commit | abort | editResult | report | step => cases hp
  | powerOnReset | pinReset => exact event_pending h (resetBlocks_pending _)
  | loadStart | loadEnd | freeRunningStrobe | lateLimitStrobe | relockFrameLimit =>
    exact event_pending h (by split <;> rfl)
  | referenceEdge => exact event_pending h (by dsimp only; split <;> rfl)
  | intervalTooLong | framePulseEnd | messageEnd | stopBitEnd | returnToMark | erase | program | conversionEnd | wrap =>
    exact event_pending h rfl
  | receivedCharacter => exact event_pending h (receive_pending _ _ _)
  | editArrival | ready | unready | query | lineBreak => exact event_pending h (by split <;> simp)
  | ctsAsserted => exact event_pending h (startOn_pending _ _)
  | cuePut => exact event_pending h (complete_pending cuePutApply_pending _)
  | cueDrop => exact event_pending h (complete_pending cueDropApply_pending _)
  | zoneSet => exact event_pending h (complete_pending zoneSetApply_pending _)
  | wallSet => exact event_pending h (complete_pending wallSetApply_pending _)
  | phaseSet => exact event_pending h (complete_pending phaseSetApply_pending _)
  | permit => exact event_pending h (complete_pending permitApply_pending _)
  | lock => exact event_pending h (complete_pending (apply := lockApply) (fun _ _ _ => rfl) _)
  | save =>
    refine event_pending h ?_
    split
    · exact completeSave_pending _ _
    · exact complete_pending (fun _ _ _ => rfl) _
  | check =>
    refine event_pending h ?_
    repeat' split
    · rfl
    · exact completeSave_pending _ _
    · rfl
  | echoEdge => exact event_pending h (by dsimp only; split <;> rfl)

/-- Settles O2: every command answers a next state, and none of them changes the queue. -/
theorem everyCommandCompletes : Obligations.EveryCommandCompletes := by
  unfold Obligations.EveryCommandCompletes
  intro i s
  obtain ⟨t, ht⟩ := exec_completes i s
  exact ⟨t, ht, exec_pending ht⟩

end Sys2Proof.Machine
end
